-- ==== Sys2Proof/Word.lean ====
section
/-! DEFINITION. The words, the numberings and the plain sets of indices that every other file uses. -/

namespace Sys2Proof

/-- One byte of a frame or an image that crosses the part's boundary. -/
abbrev Byte := BitVec 8

/-- A tenant, 0..3; tenant n is served by port n (00_scope, Terms). -/
abbrev Tenant := Fin 4

/-- The index of a Span Table entry, 0..255 (R26, R27). -/
abbrev EntryIx := Fin 256

/-- The four tenants in ascending order. -/
def allTenants : List Tenant := [0, 1, 2, 3]

/-- The 256 entry indices in ascending order. -/
def allEntries : List EntryIx := List.finRange 256

end Sys2Proof
end

