-- ==== Sys2Proof/Config.lean ====
section
/-! DEFINITION. The sizes the manual fixes for the JBC-412, and the values it leaves open (opaque, so that nothing can be
proved about them). -/

namespace Sys2Proof.Config

/-- The highest granule of the grid (R1). -/
def lastGranule : Nat := 1199

/-- The most entries the Pending List holds (R76). -/
def waitListMax : Nat := 64

/-- The most notices a port's queue holds (R163). -/
def queueMax : Nat := 16

/-- The most reports the monitor's queue holds (R131). -/
def reportMax : Nat := 4

/-- The most records the violation log holds (R131). -/
def logMax : Nat := 16

/-- The counted frame events after which an unacknowledged image has failed (R127). -/
def ackWaitMax : Nat := 4

/-- The counter value at which a tenant is warned (R151). -/
def warnAt : Nat := 96

/-- The counter value below which a warning is withdrawn (R151). -/
def clearBelow : Nat := 64

/-- The counter value at which a tenant is isolated (R152). -/
def isolateAt : Nat := 128

/-- The most bytes the loader reads (R19). -/
def imageMax : Nat := 1536

/-- FREE VALUE. The "clamped" bit of a QUERY_SPAN response for a PENDING entry, which has no clamped field: R176 gives
no absence value for that bit. Applied to a counter of the state, so each use is a fresh unknown. DESIGN CHOICE,
log entry 4. -/
opaque clampedBitOfPending : Nat → Bool

/-- FREE VALUE. A byte that a port drives while a frame of no known kind is shifted in: R176 gives the bytes of request
frames and of FETCH frames only. DESIGN CHOICE, log entry 5. -/
opaque unknownFrameOut : Nat → Byte

end Sys2Proof.Config
end

