-- ==== Sys2Proof/Syntax.lean ====
section
/-! DEFINITION. The commands: one constructor of `Instr` per row of spec/opcode_table.json. The table gives its rows no
fields; each constructor carries what the event brings in from outside (a port, the bytes of a frame, a sampled line). -/

namespace Sys2Proof

/-- The bytes of a PLACE frame after its kind byte, field by field and untested (R175). -/
structure PlaceFields where
  direction   : Byte
  placement   : Byte
  /-- First granule for EXACT, window lo for FLEX (bytes 3 and 4). -/
  firstOrLo   : BitVec 16
  /-- Window hi for FLEX; not read for EXACT (bytes 5 and 6). -/
  windowHi    : BitVec 16
  width       : BitVec 16
  density     : Byte
  priority    : Byte
  serviceCode : BitVec 16
  /-- 0 means absent. -/
  hold        : BitVec 16
  /-- 0 means absent. -/
  waitLimit   : BitVec 16
  nowait      : Bool
deriving DecidableEq, Repr

/-- The outward name of an entry: its index and its generation (R27). -/
structure Handle where
  index      : Byte
  generation : Byte
deriving DecidableEq, Repr

/-- A request of the seven kinds the Plan Engine evaluates (R48; READY and REFUSE count as one line there), as its frame
carries it (R175). -/
inductive EngineRequest where
  | place (f : PlaceFields)
  | release (h : Handle)
  | withdraw (h : Handle)
  | querySpan (h : Handle)
  | queryMap (lo : BitVec 16) (count : Byte)
  | ready (batch : BitVec 16)
  | refuse (batch : BitVec 16)
deriving DecidableEq, Repr

/-- An expiry that a frame event brings about: one countdown that reaches its end at it. Each has a row of its own in the
table. -/
inductive FrameItem where
  | cadence
  | hold (e : EntryIx)
  | lapse (e : EntryIx)
  | pace (t : Tenant)
  | recovery (t : Tenant)
  | prepareTimeout
  | settleEnd
  | ackWait
deriving DecidableEq, Repr

/-- THE MODEL'S OWN operand of a frame event. The manual gives no order for most of the expiries that fall on one frame
event, nor for them and that frame event's freeze or commit, and states the outcome of each order (R36, R90, R103). The
operand names an order. `early`: taken first, in this order. `late`: left until after the freeze or commit test, to be
taken by their own commands, or, in the part's order, by whatever command comes next. The rest are taken after `early`
and before the test. Log entry 2. -/
structure FrameOrder where
  early : List FrameItem := []
  late  : List FrameItem := []
deriving DecidableEq, Repr

/-- The commands. -/
inductive Instr where
  /-- RST_n is asserted. -/
  | deviceReset
  /-- RST_n is released. -/
  | rstRelease
  /-- A LOAD_n pulse. -/
  | reload
  /-- The read of the profile image completes; `memory` is what the configuration memory presents on CFSI from
  address 0 on. -/
  | loadComplete (memory : List Byte)
  /-- A FRAME pulse, with HOLDOFF as sampled at it. -/
  | framePulse (holdoff : Bool) (order : FrameOrder)
  /-- The internal frame countdown runs out, with HOLDOFF as sampled at that moment. -/
  | internalFrameCountdown (holdoff : Bool) (order : FrameOrder)
  | cadenceExpiry
  | prepareTimeout
  | settleEnd
  | holdExpiry (e : EntryIx)
  | lapse (e : EntryIx)
  | paceExpiry (t : Tenant)
  | ackWaitExpiry
  | recoveryCountdownExpiry (t : Tenant)
  /-- A port frame with an unknown kind or a wrong length; `bytes` are its whole bytes. -/
  | malformedFrame (t : Tenant) (bytes : List Byte)
  /-- A request frame of a kind the Plan Engine evaluates. -/
  | requestAccepted (t : Tenant) (r : EngineRequest)
  | arbiterGrant
  /-- The PLACE evaluation in hand completes; likewise the next seven. -/
  | place
  | release
  | withdraw
  | querySpan
  | queryMap
  | ready
  | refuse
  | sweepStep
  | status (t : Tenant)
  /-- MODE, with its target byte. -/
  | mode (t : Tenant) (target : Byte)
  | trigger (t : Tenant)
  /-- READ_LOG, with its from and limit fields. -/
  | readLog (t : Tenant) (start : BitVec 16) (limit : Byte)
  | recover (t : Tenant)
  | readNotice (t : Tenant)
  | setNoticeMask (t : Tenant) (mask : BitVec 16)
  /-- A FETCH frame of `count` whole bytes ends. -/
  | fetch (t : Tenant) (count : Nat)
  | portReset (t : Tenant)
  | portResetRelease (t : Tenant)
  | imageSendEnd
  | transmitFrameDone
  | ack (epoch : BitVec 32) (send : Byte)
  | nak (epoch : BitVec 32) (send : Byte)
  /-- A frame on PLRX is discarded; `bytes` are its bytes from the start byte on, as far as it was read. -/
  | plrxFrameDiscard (bytes : List Byte)
  /-- A report transfer ends; `bytes` are its whole bytes, `strayBits` says that bits stood after the last of them. -/
  | measurementReport (bytes : List Byte) (strayBits : Bool)
  | reportEvaluationBegin
  | reportEvaluation
  | chipSelectAsserted (t : Tenant)
  | reportTransferBegin
deriving DecidableEq, Repr

end Sys2Proof
end

