-- ==== Sys2Proof/Machine/Bytes.lean ====
section
/-! DEFINITION. Bytes and multi-byte fields (most significant byte first), the CRC-16 of R177 and the request kinds and
lengths of R175. -/

namespace Sys2Proof.Machine

/-- A 16-bit field as two bytes, most significant first (10, opening). -/
def be16 (x : BitVec 16) : List Byte :=
  [x.extractLsb' 8 8, x.extractLsb' 0 8]

/-- A 32-bit field as four bytes, most significant first. -/
def be32 (x : BitVec 32) : List Byte :=
  [x.extractLsb' 24 8, x.extractLsb' 16 8, x.extractLsb' 8 8, x.extractLsb' 0 8]

/-- A 16-bit field read from its two bytes. -/
def join16 (hi lo : Byte) : BitVec 16 := hi ++ lo

/-- A 32-bit field read from its four bytes. -/
def join32 (a b c d : Byte) : BitVec 32 := a ++ b ++ c ++ d

/-- A whole number sent in one byte. -/
def byteOf (n : Nat) : Byte := BitVec.ofNat 8 n

/-- A whole number sent in two bytes. -/
def nat16 (n : Nat) : List Byte := be16 (BitVec.ofNat 16 n)

/-- A signed quantity sent in one byte, two's complement. -/
def signedByte (d : Int) : Byte := BitVec.ofInt 8 d

/-- A yes or no field, or a flag sent as a whole byte (R179). -/
def flagByte (b : Bool) : Byte := if b then 1 else 0

/-- A byte made of flags, bit 0 first; a bit that no layout names is 0 (DEDUCED, log entry 12). -/
def flagBits (bs : List Bool) : Byte :=
  bs.foldr (fun b acc => (acc <<< 1) ||| flagByte b) 0

/-- One bit into the CRC register (R177): shift left, and combine with 0x1021 when the bit shifted out differs from the
data bit. -/
def crcBit (r : BitVec 16) (b : Bool) : BitVec 16 :=
  if r.msb != b then (r <<< 1) ^^^ 0x1021#16 else r <<< 1

/-- One byte into the CRC register, its bits most significant first (R177). -/
def crcByte (r : BitVec 16) (b : Byte) : BitVec 16 :=
  [7, 6, 5, 4, 3, 2, 1, 0].foldl (fun r i => crcBit r (b.getLsbD i)) r

/-- The CRC-16 of a run of bytes: the register starts at 0xFFFF and is not inverted at the end (R177). -/
def crc16 (bytes : List Byte) : BitVec 16 := bytes.foldl crcByte 0xFFFF#16

/-- A run of bytes followed by its own CRC, most significant byte first (R177). -/
def withCrc (bytes : List Byte) : List Byte := bytes ++ be16 (crc16 bytes)

/-- The request and frame kinds of R175. -/
inductive FrameKind where
  | status | mode | place | release | withdraw | querySpan | queryMap | ready | refuse
  | trigger | readLog | recover | readNotice | setNoticeMask | fetch
deriving DecidableEq, Repr

/-- The kind codes (R175). -/
def FrameKind.code : FrameKind → Byte
  | .status => 0x01 | .mode => 0x02 | .place => 0x03 | .release => 0x04 | .withdraw => 0x05
  | .querySpan => 0x06 | .queryMap => 0x07 | .ready => 0x08 | .refuse => 0x09 | .trigger => 0x0A
  | .readLog => 0x0B | .recover => 0x0C | .readNotice => 0x0D | .setNoticeMask => 0x0E | .fetch => 0x0F

/-- The length in bytes a request frame of the kind must have; `none` for FETCH, which passes at any length (R175). -/
def FrameKind.length : FrameKind → Option Nat
  | .status => some 1 | .mode => some 2 | .place => some 18 | .release => some 3 | .withdraw => some 3
  | .querySpan => some 3 | .queryMap => some 4 | .ready => some 3 | .refuse => some 3 | .trigger => some 1
  | .readLog => some 4 | .recover => some 1 | .readNotice => some 1 | .setNoticeMask => some 3 | .fetch => none

/-- Every kind, in the order of its code. -/
def FrameKind.all : List FrameKind :=
  [.status, .mode, .place, .release, .withdraw, .querySpan, .queryMap, .ready, .refuse,
   .trigger, .readLog, .recover, .readNotice, .setNoticeMask, .fetch]

/-- The kind a kind byte names, if any. -/
def kindOfByte (b : Byte) : Option FrameKind := FrameKind.all.find? (fun k => k.code = b)

/-- The kind of a whole frame that passes the test of R168 and R175: a known kind and, but for FETCH, that kind's
length. -/
def passingKind (bytes : List Byte) : Option FrameKind :=
  match bytes.head?.bind kindOfByte with
  | none => none
  | some k =>
    match k.length with
    | none => some k
    | some n => if bytes.length = n then some k else none

/-- The start byte of a plan link frame (R177). -/
def startByte : Byte := 0xA5

/-- The type code of an ACK frame (R177). -/
def ackType : Byte := 0x81

/-- The type code of a NAK frame (R177). -/
def nakType : Byte := 0x82

end Sys2Proof.Machine
end

