-- ==== Sys2Proof/Decode.lean ====
section
/-! DEFINITION. From bytes to commands. The opcode table gives its rows no bits, so `decodeTableWord` answers none on
every word; the frames that cross the part's boundary do spell commands, and this file reads them: a port frame (R168,
R175) and the bytes of PLRX (R177). -/

namespace Sys2Proof

/-- The command a word of the opcode table's bits spells: the table gives no row any bits. -/
def decodeTableWord (_nbits _w : Nat) : Option Instr := none

namespace Decode

open Machine

/-- The fields of a PLACE frame's 18 bytes (R175). -/
def placeFields (b : List Byte) : PlaceFields :=
  let at' (i : Nat) : Byte := b.getD i 0
  { direction := at' 1, placement := at' 2, firstOrLo := join16 (at' 3) (at' 4), windowHi := join16 (at' 5) (at' 6),
    width := join16 (at' 7) (at' 8), density := at' 9, priority := at' 10, serviceCode := join16 (at' 11) (at' 12),
    hold := join16 (at' 13) (at' 14), waitLimit := join16 (at' 15) (at' 16), nowait := (at' 17).getLsbD 0 }

/-- The command that the arrival of a frame's whole bytes at port `t` is (R168, R175): MALFORMED_FRAME when the kind or
the length fails the test, otherwise the command of its kind with its fields. -/
def portFrame (t : Tenant) (b : List Byte) : Instr :=
  let at' (i : Nat) : Byte := b.getD i 0
  match passingKind b with
  | none => .malformedFrame t b
  | some .status => .status t
  | some .mode => .mode t (at' 1)
  | some .place => .requestAccepted t (.place (placeFields b))
  | some .release => .requestAccepted t (.release ⟨at' 1, at' 2⟩)
  | some .withdraw => .requestAccepted t (.withdraw ⟨at' 1, at' 2⟩)
  | some .querySpan => .requestAccepted t (.querySpan ⟨at' 1, at' 2⟩)
  | some .queryMap => .requestAccepted t (.queryMap (join16 (at' 1) (at' 2)) (at' 3))
  | some .ready => .requestAccepted t (.ready (join16 (at' 1) (at' 2)))
  | some .refuse => .requestAccepted t (.refuse (join16 (at' 1) (at' 2)))
  | some .trigger => .trigger t
  | some .readLog => .readLog t (join16 (at' 1) (at' 2)) (at' 3)
  | some .recover => .recover t
  | some .readNotice => .readNotice t
  | some .setNoticeMask => .setNoticeMask t (join16 (at' 1) (at' 2))
  | some .fetch => .fetch t b.length

/-- The bytes of a PLACE frame (R175). -/
def placeBytes (f : PlaceFields) : List Byte :=
  [FrameKind.place.code, f.direction, f.placement] ++ be16 f.firstOrLo ++ be16 f.windowHi ++ be16 f.width
    ++ [f.density, f.priority] ++ be16 f.serviceCode ++ be16 f.hold ++ be16 f.waitLimit ++ [flagByte f.nowait]

/-- The bytes of a request frame the Plan Engine evaluates (R175). -/
def requestBytes : EngineRequest → List Byte
  | .place f => placeBytes f
  | .release h => [FrameKind.release.code, h.index, h.generation]
  | .withdraw h => [FrameKind.withdraw.code, h.index, h.generation]
  | .querySpan h => [FrameKind.querySpan.code, h.index, h.generation]
  | .queryMap lo count => FrameKind.queryMap.code :: be16 lo ++ [count]
  | .ready batch => FrameKind.ready.code :: be16 batch
  | .refuse batch => FrameKind.refuse.code :: be16 batch

/-- The port a frame command arrives at and a run of bytes that spells it; `none` for the commands that are no port
frame. The bytes of a FETCH after its kind are ignored, so zeros stand for them (R175). -/
def frameBytes : Instr → Option (Tenant × List Byte)
  | .malformedFrame t bytes => some (t, bytes)
  | .requestAccepted t r => some (t, requestBytes r)
  | .status t => some (t, [FrameKind.status.code])
  | .mode t target => some (t, [FrameKind.mode.code, target])
  | .trigger t => some (t, [FrameKind.trigger.code])
  | .readLog t start limit => some (t, FrameKind.readLog.code :: be16 start ++ [limit])
  | .recover t => some (t, [FrameKind.recover.code])
  | .readNotice t => some (t, [FrameKind.readNotice.code])
  | .setNoticeMask t mask => some (t, FrameKind.setNoticeMask.code :: be16 mask)
  | .fetch t count => some (t, FrameKind.fetch.code :: List.replicate (count - 1) 0)
  | .deviceReset | .rstRelease | .reload | .loadComplete _ | .framePulse _ _ | .internalFrameCountdown _ _
  | .cadenceExpiry | .prepareTimeout | .settleEnd | .holdExpiry _ | .lapse _ | .paceExpiry _ | .ackWaitExpiry
  | .recoveryCountdownExpiry _ | .arbiterGrant | .place | .release | .withdraw | .querySpan | .queryMap | .ready
  | .refuse | .sweepStep | .portReset _ | .portResetRelease _ | .imageSendEnd | .transmitFrameDone | .ack _ _
  | .nak _ _ | .plrxFrameDiscard _ | .measurementReport _ _ | .reportEvaluationBegin | .reportEvaluation
  | .chipSelectAsserted _ | .reportTransferBegin => none

/-- The bytes of an ACK or NAK frame, its start byte and CRC included (R177). -/
def answerBytes (ty : Byte) (epoch : BitVec 32) (send : Byte) : List Byte :=
  startByte :: withCrc (ty :: be32 epoch ++ [send])

/-- One frame of PLRX read from its start byte on (R177): the command it is and how many bytes the hunt goes on by;
`none` while bytes of it are still to come. -/
def plrxFrame : List Byte → Option (Instr × Nat)
  | s :: ty :: rest =>
    if ty = ackType ∨ ty = nakType then
      match rest with
      | e3 :: e2 :: e1 :: e0 :: send :: c1 :: c0 :: _ =>
        if crc16 [ty, e3, e2, e1, e0, send] = join16 c1 c0 then
          some (if ty = ackType then .ack (join32 e3 e2 e1 e0) send else .nak (join32 e3 e2 e1 e0) send, 9)
        else some (.plrxFrameDiscard [s, ty, e3, e2, e1, e0, send, c1, c0], 1)
      | _ => none
    else some (.plrxFrameDiscard [s, ty], 1)
  | _ => none

/-- The hunt of R177 over a run of bytes of PLRX, `fuel` bytes long at most: the commands it brings, in order. After a
discarded frame the hunt resumes at the byte after its start byte, after a frame that passes at the byte after it. What the hunt has
read between two commands is not in the state: log entry 17. -/
def plrxHunt : Nat → List Byte → List Instr
  | 0, _ => []
  | _, [] => []
  | fuel + 1, b :: rest =>
    if b = startByte then
      match plrxFrame (b :: rest) with
      | none => []
      | some (i, n) => i :: plrxHunt fuel ((b :: rest).drop n)
    else plrxHunt fuel rest

/-- The commands that a run of bytes on PLRX brings. -/
def plrxCommands (bytes : List Byte) : List Instr := plrxHunt bytes.length bytes

end Decode

end Sys2Proof
end

