-- ==== Sys2Proof/Machine/State.lean ====
section
/-! DEFINITION. The state of the JBC-412 as plain data, and the machine right after a device reset. Each type names the
rule that gives it. -/

namespace Sys2Proof.Machine

/-! ### Enumerations (R179 lists their codes) -/

/-- UP or DOWN (R2). -/
inductive Direction where | up | down
deriving DecidableEq, Repr

/-- EXACT or FLEX (R52). -/
inductive Placement where | exact | flex
deriving DecidableEq, Repr

/-- A tenant's service class (R9). -/
inductive ServiceClass where | data | video | voice
deriving DecidableEq, Repr

/-- A region's state (R3, R5). -/
inductive RegionState where | opened | closed
deriving DecidableEq, Repr

/-- The access codes (R4). -/
inductive Access where | none | observe | request | anchor
deriving DecidableEq, Repr

/-- An admission rule's action: ADMIT or DENY (R11). -/
inductive RuleAction where | allow | deny
deriving DecidableEq, Repr

/-- The frame source (R12). -/
inductive FrameSource where | external | internal
deriving DecidableEq, Repr

/-- The trigger source (R95, R96). -/
inductive TriggerSource where | cadence | demand | both
deriving DecidableEq, Repr

/-- The Pending List's rank mode (R77). -/
inductive RankMode where | byPriority | byArrival
deriving DecidableEq, Repr

/-- The enforcement mode (R142). -/
inductive Enforcement where | off | record | report | confine
deriving DecidableEq, Repr

/-- The recovery mode (R156). -/
inductive RecoveryMode where | auto | onRequest | latched
deriving DecidableEq, Repr

/-- A port's mode (R165). -/
inductive PortMode where | offline | config | active | paused
deriving DecidableEq, Repr

/-- Why a load failed (R20); NONE is the absence of one. -/
inductive LoadFault where | length | crc | range | direction | region | ruleBlock | framePeriod
deriving DecidableEq, Repr

/-- The cycle state (R93). -/
inductive CycleState where | initial | quiet | preparing | armed | settling
deriving DecidableEq, Repr

/-- The device states (R17). -/
inductive DeviceState where | starting | running | fault
deriving DecidableEq, Repr

/-- The fit check that last failed (R26, R73). -/
inductive PendingReason where | room | load | quota | pace
deriving DecidableEq, Repr

/-- What QUERY_MAP says of a granule (R46). -/
inductive MapValue where | free | own | taken | cooling | closed | hidden
deriving DecidableEq, Repr

/-- The kind of a finding (R137). -/
inductive ViolationKind where | overpower | stray
deriving DecidableEq, Repr

/-- The hand-over that changed a conduct counter (R149). -/
inductive Cause where | readyCredit | refusal | timeout | violation | cleanCredit
deriving DecidableEq, Repr

/-- How a recovery was taken (R159). -/
inductive RecoveryHow where | auto | request
deriving DecidableEq, Repr

/-- The kind of a plan image (R124). -/
inductive ImageKind where | batch | startUp
deriving DecidableEq, Repr

/-- The plan link's state (R122). -/
inductive LinkState where | idle | sending | waitAck | acked
deriving DecidableEq, Repr

/-- What began the load in progress (R94, R129). -/
inductive LoadKind where | afterDeviceReset | afterReload
deriving DecidableEq, Repr

/-- The answer codes (R179). -/
inductive ResponseCode where
  | ok | granted | pending | badField | badSpan | noRule | denied | short | noRight | closed | tableFull | entryQuota
  | listFull | room | load | quota | pace | gone | notPlaced | notPending | alreadyRetiring | stale | notAffected
  | noTrigger | notAllowed | paused | isolated | tooEarly | latched | disabled | notRunning | empty
deriving DecidableEq, Repr

/-! ### The plant profile (R2 to R11, R21) -/

/-- A region descriptor (R3). -/
structure Region where
  lo     : Nat
  hi     : Nat
  dir    : Direction
  state  : RegionState
  access : Vector Access 4
deriving DecidableEq, Repr

/-- An admission rule (R11). `direction` is none for ANY. -/
structure AdmissionRule where
  enabled    : Bool
  direction  : Option Direction
  codeValue  : BitVec 16
  codeMask   : BitVec 16
  lo         : Nat
  hi         : Nat
  minWidth   : Nat
  fixedWidth : Nat
  cap        : Option Int
  priority   : Option Nat
  tag        : BitVec 16
  action     : RuleAction
deriving DecidableEq, Repr

/-- A tenant record (R9). -/
structure TenantRecord where
  enabled    : Bool
  cls        : ServiceClass
  upQuota    : Nat
  downQuota  : Nat
  entryQuota : Nat
  paceFrames : Nat
  mayTrigger : Bool
  ruleBase   : Nat
  ruleCount  : Nat
deriving DecidableEq, Repr

/-- The six guard values of the symmetric class guard table (R6). -/
structure GuardTable where
  dataData   : Nat
  dataVideo  : Nat
  dataVoice  : Nat
  videoVideo : Nat
  videoVoice : Nat
  voiceVoice : Nat
deriving DecidableEq, Repr

/-- The plant profile: grid split (R2), power (R7, R8), guards (R6), the parameters of section 1.5, the tenant records
(R9), the regions (R3) and the admission rules (R10). -/
structure Profile where
  usTop          : Nat
  dsLo           : Nat
  dsBaseLim      : Int
  tiltSpan       : Nat
  usLim          : Int
  usBudget       : Nat
  dsBudget       : Nat
  guards         : GuardTable
  frameSource    : FrameSource
  framePeriod    : Nat
  triggerSource  : TriggerSource
  cadenceFrames  : Nat
  prepareFrames  : Nat
  settleFrames   : Nat
  rankMode       : RankMode
  enforcement    : Enforcement
  overMargin     : Int
  strayLimit     : Int
  strayReach     : Nat
  recoveryMode   : RecoveryMode
  recoveryFrames : Nat
  tenants        : Vector TenantRecord 4
  regions        : List Region
  rules          : List AdmissionRule
deriving DecidableEq, Repr

/-- The device state (R17) with what exists only in it: the load in progress in STARTING (`none`: held in reset, RST_n
asserted), the profile in RUNNING (R22, R23), the load fault reason in FAULT (NONE otherwise, R18, R22). -/
inductive Device where
  | starting (load : Option LoadKind)
  | running (profile : Profile)
  | fault (reason : LoadFault)
deriving DecidableEq, Repr

/-! ### The Span Table (R26) -/

/-- The fields present in every state but FREE that come from the request and its admission (R26, R62). For EXACT the
window is the span itself. -/
structure Asked where
  tenant      : Tenant
  direction   : Direction
  placement   : Placement
  windowLo    : Nat
  windowHi    : Nat
  width       : Nat
  density     : Int
  cap         : Option Int
  priority    : Nat
  anchored    : Bool
  serviceCode : BitVec 16
  tag         : BitVec 16
  hold        : Option Nat
deriving DecidableEq, Repr

/-- The fields present from STAGED on (R26, R72). -/
structure Placed where
  first   : Nat
  density : Int
  load    : Nat
  clamped : Bool
deriving DecidableEq, Repr

/-- An entry's state with the fields R26 gives that state, and no others. `forced` is "no" in the states that do not
carry it: R41 sets it only with a move to RETIRING, DROPPING or a release-marked ADDING. -/
inductive Life where
  | free
  | pending (a : Asked) (reason : PendingReason) (waitLeft : Option Nat)
  | staged (a : Asked) (p : Placed)
  | adding (a : Asked) (p : Placed) (batch : BitVec 16) (releaseMark forced : Bool)
  | live (a : Asked) (p : Placed) (holdLeft : Option Nat)
  | retiring (a : Asked) (p : Placed) (forced : Bool)
  | dropping (a : Asked) (p : Placed) (batch : BitVec 16) (forced : Bool)
  | cooling (a : Asked) (p : Placed) (forced : Bool)
deriving DecidableEq, Repr

/-- One of the 256 records of the Span Table: its generation (R27) and its life. -/
structure Entry where
  generation : Byte
  life       : Life
deriving DecidableEq, Repr

/-- One number for each direction. -/
structure PerDir where
  up   : Nat
  down : Nat
deriving DecidableEq, Repr

/-! ### The Plan Engine and the Pending List -/

/-- A requester of the Plan Engine (R48). -/
inductive Requester where
  | port (t : Tenant)
  | sweep
deriving DecidableEq, Repr

/-- The sweep position: an entry of the list, or END (R80). -/
inductive SweepPos where
  | entry (e : EntryIx)
  | listEnd
deriving DecidableEq, Repr

/-- The sweep: IDLE, or RUNNING with its position and again flag (R80). The step in hand is `State.inHand = some .sweep`. -/
inductive Sweep where
  | idle
  | running (pos : SweepPos) (again : Bool)
deriving DecidableEq, Repr

/-! ### Plan images and link frames (R122 to R124, R177) -/

/-- A run of granules. -/
structure Span where
  first : Nat
  width : Nat
deriving DecidableEq, Repr

/-- A span descriptor of a plan image (R124). -/
structure Descriptor where
  tenant      : Tenant
  direction   : Direction
  first       : Nat
  width       : Nat
  density     : Int
  serviceCode : BitVec 16
  tag         : BitVec 16
deriving DecidableEq, Repr

/-- A plan image but for its send number (R124). -/
structure PlanImage where
  epoch : BitVec 32
  kind  : ImageKind
  batch : BitVec 16
  spans : List Descriptor
deriving DecidableEq, Repr

/-- An image in flight with the send number it took (R123). -/
structure Flight where
  image : PlanImage
  send  : Byte
deriving DecidableEq, Repr

/-- An outgoing frame of the transmit order (R122). -/
inductive OutFrame where
  | image (f : Flight)
  | apply (epoch : BitVec 32) (send : Byte)
  | cancel (epoch : BitVec 32) (send : Byte)
deriving DecidableEq, Repr

/-! ### The Spectrum Monitor (R131, R132, R140) -/

/-- A report in the queue: its first granule and its clamped values, `none` for a granule not measured (R133). -/
structure Report where
  first  : Nat
  values : List (Option Int)
deriving DecidableEq, Repr

/-- A violation record (R140); `tenant` is none for an unattributed one. -/
structure Violation where
  seq    : BitVec 16
  frame  : BitVec 32
  epoch  : BitVec 32
  tenant : Option Tenant
  kind   : ViolationKind
  first  : Nat
  count  : Nat
  worst  : Int
deriving DecidableEq, Repr

/-! ### Conduct, notices and ports -/

/-- A conduct record (R148). -/
structure ConductRecord where
  counter  : Nat
  warned   : Bool
  isolated : Bool
  recovery : Option Nat
deriving DecidableEq, Repr

/-- An item of a PREPARE notice (R102); `drop` is DROP, otherwise ADD. -/
structure PrepareItem where
  index      : EntryIx
  generation : Byte
  drop       : Bool
  direction  : Direction
  first      : Nat
  width      : Nat
  density    : Int
  forced     : Bool
deriving DecidableEq, Repr

/-- The fields of a GRANTED response or notice (R72, R85). -/
structure GrantInfo where
  index      : EntryIx
  generation : Byte
  direction  : Direction
  first      : Nat
  width      : Nat
  density    : Int
  clamped    : Bool
  anchored   : Bool
  tag        : BitVec 16
deriving DecidableEq, Repr

/-- A notice's kind with the fields of that kind (R161). An ABANDONED notice has an epoch when its reason is CHANNELIZER
and none when it is BATCH_EMPTY. -/
inductive NoticeBody where
  | prepare (batch : BitVec 16) (items : List PrepareItem)
  | committed (batch : BitVec 16) (epoch : BitVec 32)
  | abandoned (batch : BitVec 16) (channelizerEpoch : Option (BitVec 32))
  | granted (g : GrantInfo)
  | lapsed (index : EntryIx) (generation : Byte) (direction : Direction) (lo hi width : Nat) (reason : PendingReason)
  | expired (index : EntryIx) (generation : Byte) (direction : Direction) (first width : Nat)
  | violation (v : Violation)
  | warned (counter : Nat) (cause : Cause)
  | cleared (counter : Nat) (cause : Cause)
  | isolated (counter : Nat) (cause : Cause) (mode : RecoveryMode) (countdown : Option Nat)
  | recovered (mode : RecoveryMode) (how : RecoveryHow) (portMode : PortMode)
deriving DecidableEq, Repr

/-- A notice: the frame counter of the event that issued it, and its body (R161). -/
structure Notice where
  frame : BitVec 32
  body  : NoticeBody
deriving DecidableEq, Repr

/-- The fields of a PENDING response (R73). -/
structure PendingInfo where
  index      : EntryIx
  generation : Byte
  reason     : PendingReason
  lo         : Nat
  hi         : Nat
  width      : Nat
  priority   : Nat
  anchored   : Bool
  tag        : BitVec 16
deriving DecidableEq, Repr

/-- The fields of a STATUS response (R171). -/
structure StatusInfo where
  device       : DeviceState
  fault        : Option LoadFault
  frameCounter : BitVec 32
  mode         : PortMode
  cycle        : CycleState
  batch        : BitVec 16
  epoch        : BitVec 32
  conduct      : ConductRecord
  mask         : BitVec 11
  noticeCount  : Nat
  missed       : BitVec 11
  collided     : Bool
  malformed    : Bool
deriving DecidableEq, Repr

/-- The body of a response (R176). `span` carries the entry as it stood, and the bit sent for a clamped field that the
entry does not have. -/
inductive ResponseBody where
  | empty
  | granted (g : GrantInfo)
  | pending (p : PendingInfo)
  | span (index : EntryIx) (entry : Entry) (clampedIfPending : Bool)
  | map (values : List MapValue)
  | status (s : StatusInfo)
  | log (next : BitVec 16) (held : Nat) (lost : Bool) (records : List Violation)
  | notice (remaining : Nat) (n : Notice)
deriving DecidableEq, Repr

/-- A response in a response slot: the kind code of the request answered, its code and its body (R176). -/
structure Response where
  kind : Byte
  code : ResponseCode
  body : ResponseBody
deriving DecidableEq, Repr

/-- A port frame under way: the status header taken as chip select was asserted, and the response a FETCH carries,
present when the header's response-ready field is set (R170, R176). -/
structure FrameUnderWay where
  mode        : PortMode
  busy        : Bool
  noticeCount : Nat
  carried     : Option Response
deriving DecidableEq, Repr

/-- One tenant port (R162 to R176). -/
structure Port where
  mode      : PortMode
  /-- The request slot; occupied is "busy" (R169). -/
  request   : Option EngineRequest
  /-- The response slot (R170). -/
  response  : Option Response
  /-- The notice queue, oldest first (R163). -/
  queue     : List Notice
  /-- The notice mask: bit n enables kind n + 1 (R164). -/
  mask      : BitVec 11
  /-- The missed flags: bit n for kind n + 1 (R162). -/
  missed    : BitVec 11
  collided  : Bool
  malformed : Bool
  /-- TnPRST_n is asserted (R172). -/
  prst      : Bool
  underWay  : Option FrameUnderWay
  /-- The bytes the port drove on TnSDO during the last frame that ended (R176). -/
  sdo       : List Byte
deriving DecidableEq, Repr

/-! ### The state -/

/-- The whole state. -/
structure State where
  /-- Device state, profile, load in progress, load fault reason (R17, R18, R22). -/
  device            : Device
  /-- The loader's staging store (R18, R19). -/
  staged            : List Byte
  /-- The frame counter (R15). -/
  frameCounter      : BitVec 32
  /-- The internal frame countdown in units of 10 µs, present while RUNNING with source INTERNAL (R14). -/
  internalCountdown : Option Nat
  /-- The Span Table (R26). -/
  table             : Vector Entry 256
  /-- The load accumulators (R32). -/
  load              : PerDir
  /-- The held-granule counts (R33). -/
  held              : Vector PerDir 4
  /-- The entry counts (R33). -/
  entryCount        : Vector Nat 4
  /-- The evaluation in hand; a port's request is in its slot. BUSY is `some` (R48). -/
  inHand            : Option Requester
  /-- The arbiter position (R49). -/
  arbiter           : Requester
  /-- The pace countdowns (R64). -/
  pace              : Vector Nat 4
  /-- The Pending List, best rank first; its count is the length (R76). -/
  waitList          : List EntryIx
  /-- The sweep (R80). -/
  sweep             : Sweep
  /-- The cycle state (R93), as are the next nine fields. -/
  cycle             : CycleState
  trigger           : Bool
  /-- The cadence countdown (R93, R96); its value before a load has succeeded is a DESIGN CHOICE, log entry 20. -/
  cadence           : Nat
  batch             : BitVec 16
  epoch             : BitVec 32
  /-- The expected set: tenants in ascending order, each once. -/
  expected          : List Tenant
  /-- The called set, likewise. -/
  called            : List Tenant
  /-- The prepare countdown, present while PREPARING. -/
  prepareLeft       : Option Nat
  /-- The settle countdown, present while SETTLING. -/
  settleLeft        : Option Nat
  /-- The changed-granule set: the granules of these spans. -/
  changed           : List Span
  /-- The link state (R122), as are the next four fields. -/
  link              : LinkState
  inFlight          : Option Flight
  sendNumber        : Byte
  /-- The acknowledgement-wait count, present in WAIT_ACK. -/
  ackWait           : Option Nat
  transmit          : List OutFrame
  /-- The start-up image that waits for the transmit order to be empty (R129). -/
  startUpWaiting    : Option PlanImage
  /-- The bytes of the frame last wholly sent on PLTX (R123, R177). -/
  pltx              : List Byte
  /-- The report queue, oldest first (R131). -/
  reports           : List Report
  /-- A report evaluation is in hand (R131). -/
  evaluating        : Bool
  /-- The violation log, oldest first (R131). -/
  log               : List Violation
  /-- The log sequence (R131). -/
  logSeq            : BitVec 16
  /-- A report transfer under way, and whether MREADY was asserted as it began (R132). -/
  transfer          : Option Bool
  /-- The conduct records (R148). -/
  conduct           : Vector ConductRecord 4
  /-- The tenant ports (chapter Tenant Ports). -/
  ports             : Vector Port 4
  /-- THE MODEL'S OWN: expiries of the last frame event still to be taken (log entry 2). -/
  due               : List FrameItem
  /-- THE MODEL'S OWN: how many free values have been used (log entry 3). -/
  freeCount         : Nat
  /-- THE MODEL'S OWN: the commands waiting, first in, first out (log entry 1). -/
  pending           : List Instr
deriving DecidableEq, Repr

/-- Why a machine stops with a fault: never. The JBC-412 has no event that stops it, and every command has an effect or
none in every state, so the type has no constructor. Safe. -/
inductive Fault where
deriving DecidableEq, Repr

/-- Why a command has no meaning. -/
inductive Refusal where
  /-- Raised by an arm of `exec` that has no meaning yet, with the row's mnemonic; no arm raises it now. Safe. -/
  | notModelled (mnemonic : String)
deriving DecidableEq, Repr

/-- A port after a reset (R172, R174): OFFLINE, empty slots and queue, every kind enabled, every flag clear. -/
def resetPort : Port :=
  { mode := .offline, request := none, response := none, queue := [], mask := 0x7FF#11, missed := 0, collided := false,
    malformed := false, prst := false, underWay := none, sdo := [] }

/-- A clean conduct record (R148). -/
def resetConduct : ConductRecord := { counter := 0, warned := false, isolated := false, recovery := none }

/-- The machine right after a device reset, RST_n still asserted: every field at the value R25, R47, R51, R92, R119,
R130, R147, R160 and R174 give for it. Log entries 18, 19, 20, 24 and 26 say what those tables leave open. -/
def State.reset : State :=
  { device := .starting none, staged := [], frameCounter := 0, internalCountdown := none,
    table := Vector.replicate 256 ⟨0, .free⟩, load := ⟨0, 0⟩, held := Vector.replicate 4 ⟨0, 0⟩,
    entryCount := Vector.replicate 4 0,
    inHand := none, arbiter := .port 0, pace := Vector.replicate 4 0,
    waitList := [], sweep := .idle,
    cycle := .initial, trigger := false, cadence := 1, batch := 0, epoch := 0, expected := [], called := [],
    prepareLeft := none, settleLeft := none, changed := [],
    link := .idle, inFlight := none, sendNumber := 0, ackWait := none, transmit := [], startUpWaiting := none, pltx := [],
    reports := [], evaluating := false, log := [], logSeq := 0, transfer := none,
    conduct := Vector.replicate 4 resetConduct, ports := Vector.replicate 4 resetPort,
    due := [], freeCount := 0, pending := [] }

end Sys2Proof.Machine
end

