-- ==== Sys2Proof/Machine/Formats.lean ====
section
/-! DEFINITION. The codes of R179 and the byte layouts of responses, notices, violation records (R176) and plan link
frames (R177). -/

namespace Sys2Proof.Machine

/-! ### Codes (R179) -/

def Direction.code : Direction → Byte | .up => 0 | .down => 1
def Placement.code : Placement → Byte | .exact => 0 | .flex => 1
def RecoveryMode.code : RecoveryMode → Byte | .auto => 0 | .onRequest => 1 | .latched => 2
def RecoveryHow.code : RecoveryHow → Byte | .auto => 0 | .request => 1
def PortMode.code : PortMode → Byte | .offline => 0 | .config => 1 | .active => 2 | .paused => 3
def DeviceState.code : DeviceState → Byte | .starting => 0 | .running => 1 | .fault => 2
def LoadFault.code : LoadFault → Byte
  | .length => 1 | .crc => 2 | .range => 3 | .direction => 4 | .region => 5 | .ruleBlock => 6 | .framePeriod => 7
def CycleState.code : CycleState → Byte
  | .initial => 0 | .quiet => 1 | .preparing => 2 | .armed => 3 | .settling => 4
def PendingReason.code : PendingReason → Byte | .room => 0 | .load => 1 | .quota => 2 | .pace => 3
def MapValue.code : MapValue → Byte
  | .free => 0 | .own => 1 | .taken => 2 | .cooling => 3 | .closed => 4 | .hidden => 5
def ViolationKind.code : ViolationKind → Byte | .overpower => 0 | .stray => 1
def Cause.code : Cause → Byte
  | .readyCredit => 0 | .refusal => 1 | .timeout => 2 | .violation => 3 | .cleanCredit => 4
def ImageKind.code : ImageKind → Byte | .batch => 0 | .startUp => 1
def ResponseCode.code : ResponseCode → Byte
  | .ok => 0x00 | .granted => 0x01 | .pending => 0x02 | .badField => 0x10 | .badSpan => 0x11 | .noRule => 0x12
  | .denied => 0x13 | .short => 0x14 | .noRight => 0x15 | .closed => 0x16 | .tableFull => 0x18 | .entryQuota => 0x19
  | .listFull => 0x1A | .room => 0x1B | .load => 0x1C | .quota => 0x1D | .pace => 0x1E | .gone => 0x1F
  | .notPlaced => 0x20 | .notPending => 0x21 | .alreadyRetiring => 0x22 | .stale => 0x23 | .notAffected => 0x24
  | .noTrigger => 0x25 | .notAllowed => 0x26 | .paused => 0x27 | .isolated => 0x28 | .tooEarly => 0x29
  | .latched => 0x2A | .disabled => 0x2B | .notRunning => 0x2C | .empty => 0x2D

/-- The code of a load fault reason, 0 for NONE. -/
def faultCode : Option LoadFault → Byte
  | none => 0
  | some f => f.code

/-- An entry state's code. -/
def Life.code : Life → Byte
  | .free => 0 | .pending .. => 1 | .staged .. => 2 | .adding .. => 3 | .live .. => 4 | .retiring .. => 5
  | .dropping .. => 6 | .cooling .. => 7

/-- The kind code of a tenant in a record: 0xFF for none. -/
def tenantCode : Option Tenant → Byte
  | none => 0xFF
  | some t => byteOf t.val

/-- An entry index in one byte. -/
def indexByte (e : EntryIx) : Byte := byteOf e.val

/-- The notice kind's code, 1..11 (R179). -/
def NoticeBody.kindCode : NoticeBody → Nat
  | .prepare .. => 1 | .committed .. => 2 | .abandoned .. => 3 | .granted .. => 4 | .lapsed .. => 5 | .expired .. => 6
  | .violation .. => 7 | .warned .. => 8 | .cleared .. => 9 | .isolated .. => 10 | .recovered .. => 11

/-- The notice kind's bit in a mask or in the missed flags: bit n for kind n + 1 (R175, R176). -/
def NoticeBody.bit (n : NoticeBody) : Nat := n.kindCode - 1

/-- An optional count as two bytes, 0 for absent. -/
def optCount : Option Nat → List Byte
  | none => nat16 0
  | some n => nat16 n

/-- An optional signed density, 0x80 for absent. -/
def optDensity : Option Int → Byte
  | none => 0x80
  | some d => signedByte d

/-! ### Bodies (R176) -/

/-- The GRANTED body, 11 bytes. -/
def GrantInfo.bytes (g : GrantInfo) : List Byte :=
  [indexByte g.index, g.generation, g.direction.code] ++ nat16 g.first ++ nat16 g.width
    ++ [signedByte g.density, flagBits [g.clamped, g.anchored]] ++ be16 g.tag

/-- The PENDING body, 13 bytes. -/
def PendingInfo.bytes (p : PendingInfo) : List Byte :=
  [indexByte p.index, p.generation, p.reason.code] ++ nat16 p.lo ++ nat16 p.hi ++ nat16 p.width
    ++ [byteOf p.priority, flagBits [false, p.anchored]] ++ be16 p.tag

/-- The parts of a QUERY_SPAN body that an entry's state decides. -/
structure SpanView where
  asked       : Asked
  placed      : Option Placed
  holdLeft    : Option Nat
  waitLeft    : Option Nat
  reason      : Option PendingReason
  batch       : BitVec 16
  forced      : Bool
  releaseMark : Bool

/-- What R26 gives each state, an absent batch as 0; `none` for FREE. -/
def Life.view : Life → Option SpanView
  | .free => none
  | .pending a r w => some ⟨a, none, none, w, some r, 0, false, false⟩
  | .staged a p => some ⟨a, some p, none, none, none, 0, false, false⟩
  | .adding a p b m f => some ⟨a, some p, none, none, none, b, f, m⟩
  | .live a p h => some ⟨a, some p, h, none, none, 0, false, false⟩
  | .retiring a p f => some ⟨a, some p, none, none, none, 0, f, false⟩
  | .dropping a p b f => some ⟨a, some p, none, none, none, b, f, false⟩
  | .cooling a p f => some ⟨a, some p, none, none, none, 0, f, false⟩

/-- The QUERY_SPAN body, 31 bytes, with the absence values of R176. The release mark and the forced flag of a state that has
none are sent as "no" (DEDUCED, log entry 13). -/
def spanBytes (index : EntryIx) (entry : Entry) (clampedIfPending : Bool) : List Byte :=
  match entry.life.view with
  | none => []
  | some v =>
    [indexByte index, entry.generation, entry.life.code, v.asked.direction.code, v.asked.placement.code]
      ++ nat16 v.asked.windowLo ++ nat16 v.asked.windowHi ++ nat16 v.asked.width
      ++ [signedByte v.asked.density, optDensity v.asked.cap, byteOf v.asked.priority,
          flagBits [v.asked.anchored, (v.placed.map Placed.clamped).getD clampedIfPending, v.forced, v.releaseMark]]
      ++ be16 v.asked.serviceCode ++ be16 v.asked.tag
      ++ ((v.placed.map fun p => nat16 p.first).getD (be16 0xFFFF))
      ++ [optDensity (v.placed.map Placed.density)]
      ++ optCount v.asked.hold ++ optCount v.holdLeft ++ optCount v.waitLeft
      ++ [(v.reason.map PendingReason.code).getD 0xFF] ++ be16 v.batch

/-- The STATUS body, 23 bytes. -/
def StatusInfo.bytes (s : StatusInfo) : List Byte :=
  [s.device.code, faultCode s.fault] ++ be32 s.frameCounter ++ [s.mode.code, s.cycle.code] ++ be16 s.batch ++ be32 s.epoch
    ++ [byteOf s.conduct.counter,
        flagBits [s.conduct.warned, s.conduct.isolated, s.collided, s.malformed, s.conduct.recovery.isSome]]
    ++ optCount s.conduct.recovery ++ be16 (s.mask.setWidth 16) ++ [byteOf s.noticeCount] ++ be16 (s.missed.setWidth 16)

/-- A violation record in a READ_LOG body, 16 bytes. -/
def Violation.bytes (v : Violation) : List Byte :=
  be16 v.seq ++ be32 v.frame ++ be32 v.epoch ++ [tenantCode v.tenant, v.kind.code] ++ nat16 v.first
    ++ [byteOf v.count, signedByte v.worst]

/-- An item of a PREPARE body, 8 bytes. -/
def PrepareItem.bytes (i : PrepareItem) : List Byte :=
  [indexByte i.index, i.generation, flagBits [i.drop, decide (i.direction = .down), i.forced]] ++ nat16 i.first
    ++ nat16 i.width ++ [signedByte i.density]

/-- A notice's body. -/
def NoticeBody.bytes : NoticeBody → List Byte
  | .prepare b items => be16 b ++ [byteOf items.length] ++ (items.map PrepareItem.bytes).flatten
  | .committed b e => be16 b ++ be32 e
  | .abandoned b e => be16 b ++ [flagByte e.isSome] ++ be32 (e.getD 0)
  | .granted g => g.bytes
  | .lapsed i g d lo hi w r => [indexByte i, g, d.code] ++ nat16 lo ++ nat16 hi ++ nat16 w ++ [r.code]
  | .expired i g d f w => [indexByte i, g, d.code] ++ nat16 f ++ nat16 w
  | .violation v =>
    be16 v.seq ++ be32 v.epoch ++ [tenantCode v.tenant, v.kind.code] ++ nat16 v.first ++ [byteOf v.count, signedByte v.worst]
  | .warned c k => [byteOf c, k.code]
  | .cleared c k => [byteOf c, k.code]
  | .isolated c k m n => [byteOf c, k.code, m.code, flagByte n.isSome] ++ optCount n
  | .recovered m h p => [m.code, h.code, p.code]

/-- A notice record: kind, frame counter, body length, body. -/
def Notice.bytes (n : Notice) : List Byte :=
  [byteOf n.body.kindCode] ++ be32 n.frame ++ nat16 n.body.bytes.length ++ n.body.bytes

/-- A response's body. -/
def ResponseBody.bytes : ResponseBody → List Byte
  | .empty => []
  | .granted g => g.bytes
  | .pending p => p.bytes
  | .span i e c => spanBytes i e c
  | .map vs => vs.map MapValue.code
  | .status s => s.bytes
  | .log next held lost rs =>
    be16 next ++ [byteOf held, flagByte lost, byteOf rs.length] ++ (rs.map Violation.bytes).flatten
  | .notice remaining n => byteOf remaining :: n.bytes

/-- A response as a FETCH sends it from byte 4 on: kind code, response code, body length, body. -/
def Response.bytes (r : Response) : List Byte :=
  [r.kind, r.code.code] ++ nat16 r.body.bytes.length ++ r.body.bytes

/-- The first `n` bytes of a run, then zeros: what a port drives during a frame of `n` bytes (R176). -/
def zeroPadTake (n : Nat) (bytes : List Byte) : List Byte :=
  bytes.take n ++ List.replicate (n - bytes.length) 0

/-- What a port drives on TnSDO during a FETCH frame of `n` bytes: 0x00 for byte 0, the status header on bytes 1 to 3, a
carried response from byte 4 on, then 0x00 (R176). -/
def FrameUnderWay.fetchBytes (f : FrameUnderWay) (n : Nat) : List Byte :=
  zeroPadTake n
    ([0, f.mode.code, flagBits [f.busy, f.carried.isSome], byteOf f.noticeCount]
      ++ ((f.carried.map Response.bytes).getD []))

/-- A FETCH of `n` bytes carried the whole response (R176): through its last body byte, or through byte 7 when the body
is empty. -/
def FrameUnderWay.carriedWhole (f : FrameUnderWay) (n : Nat) : Bool :=
  match f.carried with
  | none => false
  | some r => decide (8 + r.body.bytes.length ≤ n)

/-! ### Plan link frames (R177) -/

/-- A descriptor, 10 bytes. -/
def Descriptor.bytes (d : Descriptor) : List Byte :=
  [byteOf (d.tenant.val + match d.direction with | .up => 0 | .down => 128)] ++ nat16 d.first ++ nat16 d.width
    ++ [signedByte d.density] ++ be16 d.serviceCode ++ be16 d.tag

/-- The bytes of an outgoing frame on PLTX, start byte and CRC included. -/
def OutFrame.bytes : OutFrame → List Byte
  | .image f =>
    startByte :: withCrc ([0x01] ++ be32 f.image.epoch ++ [f.send, f.image.kind.code] ++ be16 f.image.batch
      ++ nat16 f.image.spans.length ++ (f.image.spans.map Descriptor.bytes).flatten)
  | .apply epoch send => startByte :: withCrc ([0x02] ++ be32 epoch ++ [send])
  | .cancel epoch send => startByte :: withCrc ([0x03] ++ be32 epoch ++ [send])

end Sys2Proof.Machine
end

