-- ==== Sys2Proof/Machine/Ops.lean ====
section
/-! DEFINITION. The named operations over the state that the commands share: reading and writing ports, conduct records
and entries with their running sums, issuing notices, the Pending List and its sweep, handing frames to the plan link,
forming an image, the end of the prepare phase, charges and credits, the purge, and recovery. -/

namespace Sys2Proof.Machine

/-! ### Reading and writing one element -/

/-- The direction's number. -/
def PerDir.get (x : PerDir) : Direction → Nat
  | .up => x.up
  | .down => x.down

/-- Tenant `t`'s port. -/
def State.port (s : State) (t : Tenant) : Port := s.ports[t]

/-- Replace tenant `t`'s port. -/
def State.setPort (s : State) (t : Tenant) (p : Port) : State := { s with ports := s.ports.set t p }

/-- Tenant `t`'s conduct record. -/
def State.record (s : State) (t : Tenant) : ConductRecord := s.conduct[t]

/-- Replace tenant `t`'s conduct record. -/
def State.setRecord (s : State) (t : Tenant) (c : ConductRecord) : State := { s with conduct := s.conduct.set t c }

/-- The entry of index `e`. -/
def State.entry (s : State) (e : EntryIx) : Entry := s.table[e]

/-- The life of entry `e`. -/
def State.life (s : State) (e : EntryIx) : Life := (s.entry e).life

/-- The device is RUNNING with this profile. -/
def State.profile? (s : State) : Option Profile :=
  match s.device with
  | .running p => some p
  | _ => none

/-- The device state as R17 names it. -/
def State.deviceState (s : State) : DeviceState :=
  match s.device with
  | .starting _ => .starting
  | .running _ => .running
  | .fault _ => .fault

/-- The load fault reason, none for NONE (R18, R22, R23). -/
def State.loadFault? (s : State) : Option LoadFault :=
  match s.device with
  | .fault r => some r
  | _ => none

/-- RST_n is asserted: STARTING with no load in progress (R17). -/
def State.rstAsserted (s : State) : Bool := decide (s.device = .starting none)

/-- The port is ACTIVE or PAUSED. -/
def PortMode.takesPart : PortMode → Bool
  | .active | .paused => true
  | .offline | .config => false

/-- TnATTN is asserted: the port's notice queue holds at least one notice (R163). -/
def State.attn (s : State) (t : Tenant) : Bool := !(s.port t).queue.isEmpty

/-- MREADY (R134). -/
def State.mready (s : State) : Bool :=
  match s.device with
  | .starting none => false
  | .starting (some _) => true
  | .fault _ => true
  | .running _ => decide (s.reports.length < Config.reportMax)

/-- A sweep step is in hand (R80). -/
def State.stepInHand (s : State) : Bool := decide (s.inHand = some .sweep)

/-! ### Entries: their sets and running sums (R29 to R34) -/

/-- What an entry asked for, in every state but FREE (R26). -/
def Life.asked? : Life → Option Asked
  | .free => none
  | .pending a _ _ | .staged a _ | .adding a _ _ _ _ | .live a _ _ | .retiring a _ _ | .dropping a _ _ _
  | .cooling a _ _ => some a

/-- The tenant of an entry that is not FREE. -/
def Life.tenant? (l : Life) : Option Tenant := l.asked?.map Asked.tenant

/-- An entry of the occupancy set, with its span (R31). -/
def Life.occupies? : Life → Option (Asked × Placed)
  | .free | .pending _ _ _ => none
  | .staged a p | .adding a p _ _ _ | .live a p _ | .retiring a p _ | .dropping a p _ _ | .cooling a p _ => some (a, p)

/-- An entry of the load set, with its span (R32). The quota set of R33 is the same set by tenant. -/
def Life.loaded? : Life → Option (Asked × Placed)
  | .free | .pending _ _ _ | .cooling _ _ _ => none
  | .staged a p | .adding a p _ _ _ | .live a p _ | .retiring a p _ | .dropping a p _ _ => some (a, p)

/-- An entry of the on-air set, with its span (R34). -/
def Life.onAir? : Life → Option (Asked × Placed)
  | .live a p _ | .retiring a p _ | .dropping a p _ _ => some (a, p)
  | .free | .pending _ _ _ | .staged _ _ | .adding _ _ _ _ _ | .cooling _ _ _ => none

/-- An entry of the current batch, with its span: ADDING or DROPPING (R101). -/
def Life.inBatch? : Life → Option (Asked × Placed)
  | .adding a p _ _ _ | .dropping a p _ _ => some (a, p)
  | .free | .pending _ _ _ | .staged _ _ | .live _ _ _ | .retiring _ _ _ | .cooling _ _ _ => none

/-- The tenant an entry counts toward in the entry counts: in neither FREE nor COOLING (R33). -/
def Life.counted? : Life → Option Tenant
  | .free | .cooling _ _ _ => none
  | .pending a _ _ | .staged a _ | .adding a _ _ _ _ | .live a _ _ | .retiring a _ _ | .dropping a _ _ _ => some a.tenant

/-- What an entry adds to a direction's load accumulator (R32). -/
def Life.loadIn (l : Life) (d : Direction) : Nat :=
  match l.loaded? with
  | some (a, p) => if a.direction = d then p.load else 0
  | none => 0

/-- What an entry adds to tenant `t`'s held-granule count in a direction (R33). -/
def Life.heldIn (l : Life) (t : Tenant) (d : Direction) : Nat :=
  match l.loaded? with
  | some (a, _) => if a.tenant = t ∧ a.direction = d then a.width else 0
  | none => 0

/-- What an entry adds to tenant `t`'s entry count (R33). -/
def Life.countIn (l : Life) (t : Tenant) : Nat := if l.counted? = some t then 1 else 0

/-- Give entry `e` a new life and bring every running sum into line in the same step (R29, R32, R33). -/
def setLife (e : EntryIx) (l : Life) (s : State) : State :=
  let old := s.life e
  { s with
    table := s.table.set e { s.entry e with life := l }
    load := ⟨s.load.up + l.loadIn .up - old.loadIn .up, s.load.down + l.loadIn .down - old.loadIn .down⟩
    held := Vector.ofFn fun t =>
      ⟨s.held[t].up + l.heldIn t .up - old.heldIn t .up, s.held[t].down + l.heldIn t .down - old.heldIn t .down⟩
    entryCount := Vector.ofFn fun t => s.entryCount[t] + l.countIn t - old.countIn t }

/-- Change the lives that `f` gives a new one, in ascending order of entry index. -/
def mapLives (f : EntryIx → Life → Option Life) (s : State) : State :=
  allEntries.foldl (fun s e => match f e (s.life e) with | some l => setLife e l s | none => s) s

/-- The entries whose life satisfies a test, in ascending order. -/
def State.entriesWith (s : State) (test : Life → Bool) : List EntryIx := allEntries.filter fun e => test (s.life e)

/-- The spans of the occupancy set (R31), in ascending order of entry index. -/
def State.occupied (s : State) : List (Asked × Placed) := s.table.toList.filterMap fun e => e.life.occupies?

/-- The spans of the on-air set (R34), in ascending order of entry index. -/
def State.onAir (s : State) : List (Asked × Placed) := s.table.toList.filterMap fun e => e.life.onAir?

/-- Granule `g` lies in the run of `width` granules from `first` on (R1). -/
def covers (first width g : Nat) : Bool := decide (first ≤ g) && decide (g < first + width)

/-! ### Notices (R162) -/

/-- The notices that reach a port in OFFLINE (R162). -/
def NoticeBody.isConduct : NoticeBody → Bool
  | .isolated .. | .recovered .. => true
  | .prepare .. | .committed .. | .abandoned .. | .granted .. | .lapsed .. | .expired .. | .violation .. | .warned ..
  | .cleared .. => false

/-- A port after a notice has been issued to it: the notice is dropped while TnPRST_n is asserted, dropped in OFFLINE unless
ISOLATED or RECOVERED, counted as missed when its kind is disabled or the queue is full, otherwise appended. -/
def Port.noted (frame : BitVec 32) (body : NoticeBody) (p : Port) : Port :=
  if p.prst then p
  else if p.mode = .offline ∧ body.isConduct = false then p
  else if p.mask.getLsbD body.bit = false ∨ Config.queueMax ≤ p.queue.length then
    { p with missed := p.missed ||| (1#11 <<< body.bit) }
  else { p with queue := p.queue ++ [⟨frame, body⟩] }

/-- Issue a notice to port `t`; it carries the frame counter (R15, R161). -/
def issue (t : Tenant) (body : NoticeBody) (s : State) : State :=
  s.setPort t ((s.port t).noted s.frameCounter body)

/-- Issue a notice to each of a list of tenants. -/
def issueAll (ts : List Tenant) (body : NoticeBody) (s : State) : State := ts.foldl (fun s t => issue t body s) s

/-- The tenants whose port is ACTIVE or PAUSED. -/
def State.takingPart (s : State) : List Tenant := allTenants.filter fun t => (s.port t).mode.takesPart

/-! ### The Pending List and its sweep (R76 to R84) -/

/-- Where a sweep request leaves a sweep (R81). -/
def Sweep.requested (list : List EntryIx) : Sweep → Sweep
  | .running pos _ => .running pos true
  | .idle =>
    match list with
    | [] => .idle
    | e :: _ => .running (.entry e) false

/-- A sweep request (R81). -/
def requestSweep (s : State) : State := { s with sweep := s.sweep.requested s.waitList }

/-- Where the end of the list leaves a sweep with this again flag (R84). -/
def endOfList (again : Bool) (list : List EntryIx) : Sweep :=
  match again, list with
  | true, e :: _ => .running (.entry e) false
  | true, [] => .idle
  | false, _ => .idle

/-- A sweep whose position stands at END takes the end of the list when no step is in hand (R84). -/
def Sweep.settled (stepInHand : Bool) (list : List EntryIx) : Sweep → Sweep
  | .running .listEnd again => if stepInHand then .running .listEnd again else endOfList again list
  | .running (.entry e) again => .running (.entry e) again
  | .idle => .idle

/-- The entry that follows `e` in a list. -/
def follower (e : EntryIx) : List EntryIx → Option EntryIx
  | [] => none
  | x :: rest => if x = e then rest.head? else follower e rest

/-- The sweep position that a following entry, or none, gives. -/
def posOf : Option EntryIx → SweepPos
  | some e => .entry e
  | none => .listEnd

/-- A sweep whose position stands on entry `e` of `list` moves to the entry that follows it, or to END (R79). -/
def Sweep.movedPast (e : EntryIx) (list : List EntryIx) : Sweep → Sweep
  | .running (.entry x) again => if x = e then .running (posOf (follower e list)) again else .running (.entry x) again
  | .running .listEnd again => .running .listEnd again
  | .idle => .idle

/-- An entry leaves the Pending List (R79): the rest keep their order; a RUNNING sweep's position that stood on it moves
to the entry that followed it or to END, and END is handled when no step is in hand. -/
def leaveList (e : EntryIx) (s : State) : State :=
  { s with
    waitList := s.waitList.erase e
    sweep := (s.sweep.movedPast e s.waitList).settled s.stepInHand (s.waitList.erase e) }

/-- An entry's rank as a number, lower is better: by anchoring and then priority, or all equal (R77). -/
def rankOf (mode : RankMode) (a : Asked) : Nat :=
  match mode with
  | .byPriority => (if a.anchored then 0 else 8) + a.priority
  | .byArrival => 0

/-- Insert after the last element that satisfies `ahead`, at the head when none does. -/
def insertAfterLast (ahead : EntryIx → Bool) (e : EntryIx) : List EntryIx → List EntryIx
  | [] => [e]
  | x :: rest => if ahead x || rest.any ahead then x :: insertAfterLast ahead e rest else e :: x :: rest

/-- An entry joins the Pending List behind the last entry of equal or better rank (R78). -/
def joinList (mode : RankMode) (e : EntryIx) (a : Asked) (s : State) : State :=
  let ahead (x : EntryIx) : Bool :=
    match (s.life x).asked? with
    | some b => decide (rankOf mode b ≤ rankOf mode a)
    | none => false
  { s with waitList := insertAfterLast ahead e s.waitList }

/-! ### The plan link (R123, R128) -/

/-- Hand an image to the link: a new image send begins (R123). -/
def handImage (image : PlanImage) (s : State) : State :=
  let f : Flight := ⟨image, s.sendNumber + 1⟩
  { s with sendNumber := s.sendNumber + 1, inFlight := some f, transmit := s.transmit ++ [.image f], link := .sending,
           ackWait := none }

/-- Hand APPLY for the image in flight to the link: the image becomes the applied plan, its epoch the epoch number
(R94, R115, R128). -/
def handApply (f : Flight) (s : State) : State :=
  { s with transmit := s.transmit ++ [.apply f.image.epoch f.send], inFlight := none, link := .idle, ackWait := none,
           epoch := f.image.epoch }

/-- Hand CANCEL for an image send to the link (R127). -/
def handCancel (f : Flight) (s : State) : State :=
  { s with transmit := s.transmit ++ [.cancel f.image.epoch f.send] }

/-- The image in flight is given up (R126, R127). -/
def giveUp (s : State) : State := { s with inFlight := none, link := .idle, ackWait := none }

/-- The descriptor of an entry that stays on air or goes on air at the commit (R111, R124). -/
def Life.descriptor? (l : Life) : Option Descriptor :=
  match l with
  | .live a p _ | .retiring a p _ | .adding a p _ _ _ =>
    some ⟨a.tenant, a.direction, p.first, a.width, p.density, a.serviceCode, a.tag⟩
  | .free | .pending _ _ _ | .staged _ _ | .dropping _ _ _ _ | .cooling _ _ _ => none

/-- The batch image: every LIVE, RETIRING and ADDING entry in ascending order of first granule, with the next epoch
(R111, R124). -/
def batchImage (s : State) : PlanImage :=
  { epoch := s.epoch + 1, kind := .batch, batch := s.batch,
    spans := (s.table.toList.filterMap fun e => e.life.descriptor?).insertionSort fun x y => x.first ≤ y.first }

/-! ### The end of the prepare phase (R108, R111) -/

/-- The cycle becomes ARMED: the image of the batch is formed and handed over (R108, R111). -/
def becomeArmed (s : State) : State :=
  handImage (batchImage s) { s with cycle := .armed, prepareLeft := none, called := [] }

/-- The batch has come to nothing: ABANDONED with BATCH_EMPTY to the called tenants, and the cycle is QUIET (R108). -/
def batchEmpty (s : State) : State :=
  let s' := issueAll s.called (.abandoned s.batch none) s
  { s' with cycle := .quiet, prepareLeft := none, called := [] }

/-- When the expected set is empty in PREPARING, the Switchover Controller proceeds (R108). -/
def proceed (s : State) : State :=
  if s.cycle = .preparing ∧ s.expected = [] then
    if s.table.toList.any fun e => e.life.inBatch?.isSome then becomeArmed s else batchEmpty s
  else s

/-- A tenant leaves the expected set (R39, R42, R105, R106). -/
def leaveExpected (t : Tenant) (s : State) : State := { s with expected := s.expected.filter (· ≠ t) }

/-! ### The purge (R41, R42) -/

/-- What the purge makes of one of the tenant's entries; `none` where it leaves the entry as it is. -/
def purgedLife (cycle : CycleState) : Life → Option Life
  | .free => none
  | .pending _ _ _ => some .free
  | .staged _ _ => some .free
  | .adding a p b _ _ => if cycle = .preparing then some .free else some (.adding a p b true true)
  | .live a p _ => some (.retiring a p true)
  | .retiring a p _ => some (.retiring a p true)
  | .dropping a p b _ => some (.dropping a p b true)
  | .cooling _ _ _ => none

/-- The purge of tenant `t` (R41, R42): its entries by state and cycle state, out of the Pending List, out of the
expected and called sets; then the trigger flag and a sweep request. -/
def purge (t : Tenant) (s : State) : State :=
  let waiting := s.waitList.filter fun e => decide ((s.life e).tenant? = some t)
  let s1 := waiting.foldl (fun s e => leaveList e s) s
  let s2 := mapLives (fun _ l => if l.tenant? = some t then purgedLife s.cycle l else none) s1
  let s3 := leaveExpected t { s2 with called := s2.called.filter (· ≠ t) }
  let s4 := if t ∈ s2.expected then proceed s3 else s3
  requestSweep { s4 with trigger := true }

/-! ### Conduct (R149 to R152, R155, R158) -/

/-- The recovery countdown that an isolation loads (R152). -/
def Profile.recoveryStart (p : Profile) : Option Nat :=
  if p.recoveryMode = .latched then none else some p.recoveryFrames

/-- A charge is handed over (R149, R151, R152): nothing for an isolated tenant; otherwise the counter rises, the warning
is given at 96 and the isolation at 128, up to the ISOLATED notice. The answer says whether the tenant was isolated by
it: the purge of R152 follows once the event that made the charge has applied all its own effects. -/
def charge (p : Profile) (t : Tenant) (amount : Nat) (cause : Cause) (s : State) : State × Bool :=
  let c := s.record t
  if c.isolated then (s, false)
  else
    let n := c.counter + amount
    let warn := decide (c.counter < Config.warnAt) && decide (Config.warnAt ≤ n) && !c.warned
    let isolate := decide (c.counter < Config.isolateAt) && decide (Config.isolateAt ≤ n)
    let c' : ConductRecord :=
      { counter := n, warned := c.warned || warn || isolate, isolated := isolate
        recovery := if isolate then p.recoveryStart else c.recovery }
    let notices : List NoticeBody :=
      (if warn then [.warned n cause] else [])
        ++ (if isolate then [.isolated n cause p.recoveryMode p.recoveryStart] else [])
    (notices.foldl (fun s body => issue t body s) (s.setRecord t c'), isolate)

/-- A credit is handed over (R149, R151): nothing for an isolated tenant or a counter at 0; otherwise the counter falls
by 1, and a warning is withdrawn below 64. -/
def credit (t : Tenant) (cause : Cause) (s : State) : State :=
  let c := s.record t
  if c.isolated ∨ c.counter = 0 then s
  else
    let n := c.counter - 1
    let clear := decide (Config.clearBelow ≤ c.counter) && decide (n < Config.clearBelow) && c.warned
    let s1 := s.setRecord t { c with counter := n, warned := c.warned && !clear }
    if clear then issue t (.cleared n cause) s1 else s1

/-- Purge each tenant of a list, in order: the isolations of one event (R152). Its place after the
event's other effects, and the tenant order, are DEDUCED, log entry 8. -/
def purgeAll (ts : List Tenant) (s : State) : State := ts.foldl (fun s t => purge t s) s

/-- A restart of a tenant's recovery countdown is handed over: loaded again when present, discarded in LATCHED
(R155). -/
def restartRecovery (p : Profile) (t : Tenant) (s : State) : State :=
  let c := s.record t
  match c.recovery with
  | some _ => s.setRecord t { c with recovery := some p.recoveryFrames }
  | none => s

/-- Recovery is taken (R158). -/
def takeRecovery (p : Profile) (t : Tenant) (how : RecoveryHow) (s : State) : State :=
  let s1 := s.setRecord t resetConduct
  issue t (.recovered p.recoveryMode how .config) (s1.setPort t { s1.port t with mode := .config })

end Sys2Proof.Machine
end

