-- ==== Sys2Proof/Machine/Admission.lean ====
section
/-! DEFINITION. Admission: the ten steps of the PLACE evaluation up to the fit checks, and the fit checks that the sweep
step shares (R52 to R71, R75). -/

namespace Sys2Proof.Machine

/-! ### The profile read by admission -/

/-- The guard between two classes (R6). -/
def GuardTable.get (g : GuardTable) : ServiceClass → ServiceClass → Nat
  | .data, .data => g.dataData
  | .data, .video | .video, .data => g.dataVideo
  | .data, .voice | .voice, .data => g.dataVoice
  | .video, .video => g.videoVideo
  | .video, .voice | .voice, .video => g.videoVoice
  | .voice, .voice => g.voiceVoice

/-- A tenant's quota for a direction (R9). -/
def TenantRecord.quota (r : TenantRecord) : Direction → Nat
  | .up => r.upQuota
  | .down => r.downQuota

/-- A direction's budget (R8). -/
def Profile.budget (p : Profile) : Direction → Nat
  | .up => p.usBudget
  | .down => p.dsBudget

/-- Tenant `t`'s record (R9). -/
def Profile.tenant (p : Profile) (t : Tenant) : TenantRecord := p.tenants[t]

/-- The region a granule lies in (R3). -/
def Profile.regionAt (p : Profile) (g : Nat) : Option Region :=
  p.regions.find? fun r => decide (r.lo ≤ g) && decide (g ≤ r.hi)

/-- Tenant `t`'s access code at a granule, NONE in no region (R3). -/
def Profile.accessAt (p : Profile) (t : Tenant) (g : Nat) : Access :=
  match p.regionAt g with
  | some r => r.access[t]
  | none => .none

/-- A granule lies in an OPEN region, or in none (R3). -/
def Profile.openAt (p : Profile) (g : Nat) : Bool :=
  match p.regionAt g with
  | some r => decide (r.state = .opened)
  | none => true

/-- REQUEST or better (R4). -/
def Access.mayPlace : Access → Bool
  | .request | .anchor => true
  | .none | .observe => false

/-- A granule is permitted for tenant `t` (R4). -/
def Profile.permitted (p : Profile) (t : Tenant) (g : Nat) : Bool := p.openAt g && (p.accessAt t g).mayPlace

/-- Every one of `w` granules from `g` on passes a test. -/
def runOk (test : Nat → Bool) (g : Nat) : Nat → Bool
  | 0 => true
  | w + 1 => test g && runOk test (g + 1) w

/-- Some run of `w` consecutive granules within lo..hi passes a test at every granule (R60). -/
def hasRun (test : Nat → Bool) (lo hi w : Nat) : Bool :=
  (List.range (hi + 2 - w - lo)).any fun k => runOk test (lo + k) w

/-- The run lo..hi lies in the range of a direction (R2). -/
def Profile.inDirection (p : Profile) (d : Direction) (lo hi : Nat) : Bool :=
  match d with
  | .up => decide (hi ≤ p.usTop)
  | .down => decide (p.dsLo ≤ lo) && decide (hi ≤ Config.lastGranule)

/-- The rules of tenant `t`'s block, in table order (R10). -/
def Profile.ruleBlock (p : Profile) (t : Tenant) : List AdmissionRule :=
  (p.rules.drop (p.tenant t).ruleBase).take (p.tenant t).ruleCount

/-! ### Step 2: field values (R54) -/

/-- A PLACE request with its fields in range; for EXACT the window is the span (R54). -/
structure PlaceAsk where
  direction   : Direction
  placement   : Placement
  lo          : Nat
  hi          : Nat
  width       : Nat
  density     : Int
  priority    : Nat
  serviceCode : BitVec 16
  hold        : Option Nat
  waitLimit   : Option Nat
  nowait      : Bool
deriving DecidableEq, Repr

/-- The direction a request's byte names (R179); ANY is for rules only. -/
def directionOf (b : Byte) : Option Direction :=
  if b = 0 then some .up else if b = 1 then some .down else none

/-- The placement a byte names (R179). -/
def placementOf (b : Byte) : Option Placement :=
  if b = 0 then some .exact else if b = 1 then some .flex else none

/-- A hold or wait limit field: 0 means absent (R175). -/
def optField (x : BitVec 16) : Option Nat := if x.toNat = 0 then none else some x.toNat

/-- Step 2: the fields of a PLACE frame, or `none` for BAD_FIELD (R54). -/
def placeAsk (f : PlaceFields) : Option PlaceAsk :=
  match directionOf f.direction, placementOf f.placement with
  | some d, some pl =>
    let w := f.width.toNat
    let lo := f.firstOrLo.toNat
    let hi := match pl with | .exact => lo + w - 1 | .flex => f.windowHi.toNat
    if 1 ≤ w ∧ w ≤ 1200 ∧ -8 ≤ f.density.toInt ∧ f.density.toInt ≤ 6 ∧ f.priority.toNat ≤ 7 ∧ lo ≤ hi
        ∧ hi ≤ Config.lastGranule then
      some ⟨d, pl, lo, hi, w, f.density.toInt, f.priority.toNat, f.serviceCode, optField f.hold, optField f.waitLimit,
        f.nowait⟩
    else none
  | _, _ => none

/-! ### Steps 3 to 5 (R55 to R61) -/

/-- Step 3: direction geometry (R55). -/
def geometryOk (p : Profile) (q : PlaceAsk) : Bool :=
  p.inDirection q.direction q.lo q.hi && decide (q.lo + q.width ≤ q.hi + 1)

/-- A rule matches a request (R56). -/
def AdmissionRule.matches (r : AdmissionRule) (q : PlaceAsk) : Bool :=
  (r.direction.isNone || decide (r.direction = some q.direction))
    && decide (q.serviceCode &&& r.codeMask = r.codeValue &&& r.codeMask)
    && match q.placement with
       | .exact => decide (r.lo ≤ q.lo) && decide (q.hi ≤ r.hi)
       | .flex => decide (q.lo ≤ r.hi) && decide (r.lo ≤ q.hi)

/-- A request with an ADMIT rule's effects applied, its anchoring still open (R58, effects 2, 3 and 5 to 7). -/
def reshaped (t : Tenant) (r : AdmissionRule) (q : PlaceAsk) : Asked :=
  let w := if 0 < r.fixedWidth then r.fixedWidth else q.width
  { tenant := t, direction := q.direction, placement := q.placement
    windowLo := match q.placement with | .exact => q.lo | .flex => max q.lo r.lo
    windowHi := match q.placement with | .exact => q.lo + w - 1 | .flex => min q.hi r.hi
    width := w, density := q.density, cap := r.cap, priority := r.priority.getD q.priority, anchored := false
    serviceCode := q.serviceCode, tag := r.tag, hold := q.hold }

/-- The geometry of a reshaped request (R58, effect 4). -/
def reshapedFits (p : Profile) (r : AdmissionRule) (a : Asked) : Bool :=
  match a.placement with
  | .exact => decide (r.lo ≤ a.windowLo) && decide (a.windowHi ≤ r.hi) && p.inDirection a.direction a.windowLo a.windowHi
  | .flex => decide (a.windowLo + a.width ≤ a.windowHi + 1)

/-- The effects of an ADMIT rule on a request (R58): the reshaped request, or the refusal. -/
def reshape (p : Profile) (t : Tenant) (r : AdmissionRule) (q : PlaceAsk) : Except ResponseCode Asked :=
  if 0 < r.minWidth ∧ q.width < r.minWidth then .error .short
  else if reshapedFits p r (reshaped t r q) then .ok (reshaped t r q)
  else .error .badSpan

/-- Step 4: the first enabled rule of the block that matches decides (R56, R57, R58). -/
def applyRules (p : Profile) (t : Tenant) (q : PlaceAsk) : Except ResponseCode Asked :=
  match (p.ruleBlock t).find? fun r => r.enabled && r.matches q with
  | none => .error .noRule
  | some r =>
    match r.action with
    | .deny => .error .denied
    | .allow => reshape p t r q

/-- Step 5: region rights (R59, R60); `none` when they pass. -/
def regionRefusal (p : Profile) (a : Asked) : Option ResponseCode :=
  let mine (g : Nat) : Bool := (p.accessAt a.tenant g).mayPlace
  match a.placement with
  | .exact =>
    if runOk mine a.windowLo a.width = false then some .noRight
    else if runOk p.openAt a.windowLo a.width = false then some .closed
    else none
  | .flex =>
    if hasRun (p.permitted a.tenant) a.windowLo a.windowHi a.width then none
    else if hasRun mine a.windowLo a.windowHi a.width then some .closed
    else some .noRight

/-- Whether the request is anchored: ANCHOR at every granule of the reshaped span or narrowed window (R61). -/
def anchoredOn (p : Profile) (a : Asked) : Bool :=
  runOk (fun g => decide (p.accessAt a.tenant g = .anchor)) a.windowLo (a.windowHi + 1 - a.windowLo)

/-- Steps 2 to 5: what the entry is to record, with the wait limit and NOWAIT of the request; or the refusal
(R52, R54 to R61). -/
def admission (p : Profile) (t : Tenant) (f : PlaceFields) : Except ResponseCode (PlaceAsk × Asked) :=
  match placeAsk f with
  | none => .error .badField
  | some q =>
    if geometryOk p q = false then .error .badSpan
    else
      match applyRules p t q with
      | .error c => .error c
      | .ok a =>
        match regionRefusal p a with
        | some c => .error c
        | none => .ok (q, { a with anchored := anchoredOn p a })

/-! ### Step 6: table space (R28, R62) -/

/-- The FREE entry of lowest index (R28). -/
def State.lowestFree (s : State) : Option EntryIx := allEntries.find? fun e => decide (s.life e = .free)

/-- An entry leaves FREE: its generation is incremented (R27). -/
def bumpGeneration (e : EntryIx) (s : State) : State :=
  { s with table := s.table.set e { s.entry e with generation := (s.entry e).generation + 1 } }

/-! ### Steps 7 to 10: the fit checks (R63 to R71) -/

/-- The gap between the spans a..b and c..d is at least `g`: they share no granule and at least `g` lie between them
(R1). -/
def gapAtLeast (g a b c d : Nat) : Bool := decide (b + g < c) || decide (d + g < a)

/-- An occupied span leaves room for tenant `a.tenant`'s span of the width at position `p`: no overlap, and the guard
when it is another tenant's span of the same direction (R66). -/
def clearOf (pr : Profile) (a : Asked) (p : Nat) (other : Asked × Placed) : Bool :=
  let lo := other.2.first
  let hi := other.2.first + other.1.width - 1
  let guard :=
    if other.1.tenant ≠ a.tenant ∧ other.1.direction = a.direction then
      pr.guards.get (pr.tenant a.tenant).cls (pr.tenant other.1.tenant).cls
    else 0
  gapAtLeast guard p (p + a.width - 1) lo hi

/-- Position `p` is a candidate (R66). -/
def candidate (pr : Profile) (s : State) (a : Asked) (p : Nat) : Bool :=
  decide (a.windowLo ≤ p) && decide (p + a.width ≤ a.windowHi + 1) && s.occupied.all (clearOf pr a p)
    && runOk (pr.permitted a.tenant) p a.width

/-- Step 9: the placement (R67): for EXACT the first granule of the span, for FLEX the lowest candidate. -/
def placement (pr : Profile) (s : State) (a : Asked) : Option Nat :=
  match a.placement with
  | .exact => if candidate pr s a a.windowLo then some a.windowLo else none
  | .flex =>
    ((List.range (a.windowHi + 2 - a.width - a.windowLo)).map (a.windowLo + ·)).find? (candidate pr s a)

/-- The density limit at a granule of a direction (R68). -/
def densityLimit (pr : Profile) (d : Direction) (g : Nat) : Int :=
  match d with
  | .up => pr.usLim
  | .down => min 6 (pr.dsBaseLim + ((pr.tiltSpan * (g - pr.dsLo) / (Config.lastGranule - pr.dsLo) : Nat) : Int))

/-- The weight of a density, −8..+6 (R70). -/
def weight (d : Int) : Nat :=
  [162, 204, 257, 324, 408, 513, 646, 813, 1024, 1289, 1623, 2043, 2572, 3238, 4077].getD (d + 8).toNat 0

/-- The granted density at placement `p` (R69): the least of the requested density, the cap and the limit. -/
def grantedDensity (pr : Profile) (a : Asked) (p : Nat) : Int :=
  let d := min a.density (densityLimit pr a.direction p)
  match a.cap with
  | some c => min d c
  | none => d

/-- What step 10 finds for a span placed at `p` (R69, R70). -/
def placedAt (pr : Profile) (a : Asked) (p : Nat) : Placed :=
  let d := grantedDensity pr a p
  { first := p, density := d, load := a.width * weight d, clamped := decide (d < a.density) }

/-- The fit checks, steps 7 to 10 in order (R64 to R71): the span as placed, or the reason of the first that fails. -/
def fitChecks (pr : Profile) (s : State) (a : Asked) : Except PendingReason Placed :=
  if 0 < s.pace[a.tenant] then .error .pace
  else if (pr.tenant a.tenant).quota a.direction < s.held[a.tenant].get a.direction + a.width then .error .quota
  else
    match placement pr s a with
    | none => .error .room
    | some p =>
      if s.load.get a.direction + (placedAt pr a p).load ≤ pr.budget a.direction then .ok (placedAt pr a p)
      else .error .load

/-- Entry `e` is staged (R72, R75): it joins its sets with their sums, and its tenant's pace countdown is loaded. -/
def stage (pr : Profile) (e : EntryIx) (a : Asked) (p : Placed) (s : State) : State :=
  let s' := setLife e (.staged a p) s
  { s' with pace := s'.pace.set a.tenant (pr.tenant a.tenant).paceFrames }

/-- The fields of a GRANTED response or notice (R72, R85). -/
def grantInfo (e : EntryIx) (generation : Byte) (a : Asked) (p : Placed) : GrantInfo :=
  ⟨e, generation, a.direction, p.first, a.width, p.density, p.clamped, a.anchored, a.tag⟩

/-- An answer to a request: its code and its body. -/
abbrev Answer := ResponseCode × ResponseBody

/-- A refusal carries its code alone (R74, R176). -/
def refusal (c : ResponseCode) : Answer := (c, .empty)

/-- The code a fit failure's reason gives with NOWAIT (R73). -/
def PendingReason.refusalCode : PendingReason → ResponseCode
  | .room => .room
  | .load => .load
  | .quota => .quota
  | .pace => .pace

/-- A fit check has failed on the entry just allocated (R73). -/
def fitFailed (pr : Profile) (e : EntryIx) (a : Asked) (q : PlaceAsk) (r : PendingReason) (s : State) : State × Answer :=
  if q.nowait then (s, refusal r.refusalCode)
  else if Config.waitListMax ≤ s.waitList.length then (s, refusal .listFull)
  else
    (setLife e (.pending a r q.waitLimit) (joinList pr.rankMode e a s),
     (.pending, .pending ⟨e, (s.entry e).generation, r, a.windowLo, a.windowHi, a.width, a.priority, a.anchored, a.tag⟩))

/-- The PLACE evaluation from step 2 on (R52 to R74); step 1 is the check every evaluated request takes first. -/
def evalPlace (pr : Profile) (t : Tenant) (f : PlaceFields) (s : State) : State × Answer :=
  match admission pr t f with
  | .error c => (s, refusal c)
  | .ok (q, a) =>
    match s.lowestFree with
    | none => (s, refusal .tableFull)
    | some e =>
      if (pr.tenant t).entryQuota ≤ s.entryCount[t] then (s, refusal .entryQuota)
      else
        let s1 := bumpGeneration e s
        if (pr.tenant t).quota a.direction < a.width then (s1, refusal .quota)
        else
          match fitChecks pr s1 a with
          | .ok p => (stage pr e a p s1, (.granted, .granted (grantInfo e (s1.entry e).generation a p)))
          | .error r => fitFailed pr e a q r s1

end Sys2Proof.Machine
end

