-- ==== Sys2Proof/Machine/Cycle.lean ====
section
/-! DEFINITION. The switchover cycle: freeze, commit, abandonment, prepare timeout, settle end, and what the plan link
reports to it (R94 to R118, R125 to R129). -/

namespace Sys2Proof.Machine

/-! ### The freeze (R99 to R102) -/

/-- What a freeze makes of an entry: STAGED becomes ADDING, RETIRING becomes DROPPING (R101). -/
def frozenLife (batch : BitVec 16) : Life → Option Life
  | .staged a p => some (.adding a p batch false false)
  | .retiring a p f => some (.dropping a p batch f)
  | .free | .pending _ _ _ | .adding _ _ _ _ _ | .live _ _ _ | .dropping _ _ _ _ | .cooling _ _ _ => none

/-- The tenant an entry calls at a freeze: that of an ADDING entry or of a DROPPING entry without forced (R101). -/
def Life.calls? : Life → Option Tenant
  | .adding a _ _ _ _ => some a.tenant
  | .dropping a _ _ false => some a.tenant
  | .dropping _ _ _ true | .free | .pending _ _ _ | .staged _ _ | .live _ _ _ | .retiring _ _ _ | .cooling _ _ _ => none

/-- Tenant `t` owns an ADDING entry or a DROPPING entry without forced (R39, R101). -/
def State.owesAnswer (s : State) (t : Tenant) : Bool := s.table.toList.any fun e => decide (e.life.calls? = some t)

/-- The expected set a freeze forms (R101). -/
def formExpected (s : State) : List Tenant :=
  allTenants.filter fun t => s.owesAnswer t && (s.port t).mode.takesPart && !(s.record t).isolated

/-- An entry's item in a PREPARE notice (R102). -/
def prepareItem (e : EntryIx) (en : Entry) : Option PrepareItem :=
  match en.life with
  | .adding a p _ _ f => some ⟨e, en.generation, false, a.direction, p.first, a.width, p.density, f⟩
  | .dropping a p _ f => some ⟨e, en.generation, true, a.direction, p.first, a.width, p.density, f⟩
  | .free | .pending _ _ _ | .staged _ _ | .live _ _ _ | .retiring _ _ _ | .cooling _ _ _ => none

/-- Tenant `t`'s items of a PREPARE notice, in ascending order of entry index (R102). -/
def State.prepareItems (s : State) (t : Tenant) : List PrepareItem :=
  allEntries.filterMap fun e => if (s.life e).tenant? = some t then prepareItem e (s.entry e) else none

/-- A STAGED or RETIRING entry stands in the table (R100, R101). -/
def State.hasFreezable (s : State) : Bool := s.table.toList.any fun e => (frozenLife 0 e.life).isSome

/-- The freeze (R100, R101). -/
def freeze (p : Profile) (s : State) : State :=
  if s.hasFreezable then
    let s1 := mapLives (fun _ l => frozenLife (s.batch + 1) l) { s with trigger := false, batch := s.batch + 1 }
    let called := formExpected s1
    let s2 := { s1 with expected := called, called := called }
    let s3 := called.foldl (fun s t => issue t (.prepare s.batch (s.prepareItems t)) s) s2
    if called = [] then becomeArmed s3
    else { s3 with prepareLeft := some p.prepareFrames, cycle := .preparing }
  else { s with trigger := false }

/-! ### The commit (R115, R116) -/

/-- What a commit makes of an entry (R115). -/
def committedLife (settleFrames : Nat) : Life → Option Life
  | .adding a p _ true f => some (.retiring a p f)
  | .adding a p _ false _ => some (.live a p a.hold)
  | .dropping a p _ f => some (if 0 < settleFrames then .cooling a p f else .free)
  | .free | .pending _ _ _ | .staged _ _ | .live _ _ _ | .retiring _ _ _ | .cooling _ _ _ => none

/-- A DROPPING entry. -/
def Life.isDropping : Life → Bool
  | .dropping _ _ _ _ => true
  | .free | .pending _ _ _ | .staged _ _ | .adding _ _ _ _ _ | .live _ _ _ | .retiring _ _ _ | .cooling _ _ _ => false

/-- The spans the commit moves onto or off the air: those of the batch entries (R116). -/
def State.batchSpans (s : State) : List Span :=
  s.table.toList.filterMap fun e => e.life.inBatch?.map fun (a, p) => ⟨p.first, a.width⟩

/-- The commit (R115, R116). -/
def commit (p : Profile) (f : Flight) (s : State) : State :=
  let changed := if 0 < p.settleFrames then s.batchSpans else []
  let dropped := s.table.toList.any fun e => e.life.isDropping
  let s1 := mapLives (fun _ l => committedLife p.settleFrames l) (handApply f s)
  let s2 := issueAll s1.takingPart (.committed s1.batch s1.epoch) { s1 with changed := changed }
  let s3 := if dropped then requestSweep s2 else s2
  if 0 < p.settleFrames then { s3 with settleLeft := some p.settleFrames, cycle := .settling }
  else { s3 with cycle := .quiet }

/-- APPLY for the start-up image: the epoch number becomes its epoch and the cycle is QUIET (R94, R128). -/
def applyStartUp (f : Flight) (s : State) : State := { handApply f s with cycle := .quiet }

/-! ### The abandonment (R114) -/

/-- What an abandonment makes of an entry (R114). -/
def abandonedLife : Life → Option Life
  | .adding _ _ _ true _ => some .free
  | .adding a p _ false _ => some (.staged a p)
  | .dropping a p _ f => some (.retiring a p f)
  | .free | .pending _ _ _ | .staged _ _ | .live _ _ _ | .retiring _ _ _ | .cooling _ _ _ => none

/-- A release-marked ADDING entry. -/
def Life.isMarked : Life → Bool
  | .adding _ _ _ m _ => m
  | .free | .pending _ _ _ | .staged _ _ | .live _ _ _ | .retiring _ _ _ | .dropping _ _ _ _ | .cooling _ _ _ => false

/-- The abandonment of a batch on the channelizer's account, its image having carried `epoch` (R114). -/
def abandon (epoch : BitVec 32) (s : State) : State :=
  let freed := s.table.toList.any fun e => e.life.isMarked
  let s1 := mapLives (fun _ l => abandonedLife l) s
  let s2 := issueAll s1.takingPart (.abandoned s1.batch (some epoch)) { s1 with cycle := .quiet, trigger := true }
  if freed then requestSweep s2 else s2

/-! ### The prepare phase (R105 to R107) -/

/-- What a REFUSE, or a timeout, makes of an entry of its tenant (R106). -/
def returnedLife : Life → Option Life
  | .adding a p _ _ _ => some (.staged a p)
  | .dropping a p _ false => some (.retiring a p false)
  | .dropping _ _ _ true | .free | .pending _ _ _ | .staged _ _ | .live _ _ _ | .retiring _ _ _ | .cooling _ _ _ => none

/-- Tenant `t`'s part of the batch is withdrawn and it leaves the expected set (R106). -/
def withdrawPart (t : Tenant) (s : State) : State :=
  leaveExpected t (mapLives (fun _ l => if l.tenant? = some t then returnedLife l else none) s)

/-- The prepare phase times out (R107): every tenant still expected is treated as refusing and charged the timeout
charge, R108 applies, and the tenants that the charge isolated are purged (R152). The order of the notices is DEDUCED, log
entry 9. -/
def timeOut (p : Profile) (s : State) : State :=
  let late := s.expected
  let s1 := late.foldl (fun s t => withdrawPart t s) s
  let (s2, isolated) := late.foldl
    (fun (s, ts) t => let (s', now) := charge p t 8 .timeout s; (s', if now then ts ++ [t] else ts)) (s1, ([] : List Tenant))
  purgeAll isolated (proceed s2)

/-! ### The settle end (R118) -/

/-- The settle end (R118). -/
def endSettle (s : State) : State :=
  let cooled : Life → Option Life
    | .cooling _ _ _ => some .free
    | .free | .pending _ _ _ | .staged _ _ | .adding _ _ _ _ _ | .live _ _ _ | .retiring _ _ _ | .dropping _ _ _ _ => none
  let s1 := mapLives (fun _ l => cooled l) s
  requestSweep { s1 with changed := [], settleLeft := none, cycle := .quiet }

/-! ### A failed image (R126, R127, R129) -/

/-- The image in flight has failed: a batch image is given up and its batch abandoned (R114); a start-up image is sent
again as a new send (R129). -/
def imageFailed (f : Flight) (s : State) : State :=
  match f.image.kind with
  | .batch => abandon f.image.epoch (giveUp s)
  | .startUp => handImage f.image s

/-- The frame event's freeze or commit test (R93, R99, R113, R128), by the cycle state as it stood when the frame event
came; HOLDOFF suspends it (R98). -/
def cycleTest (p : Profile) (cycle : CycleState) (holdoff : Bool) (s : State) : State :=
  if holdoff then s
  else
    match cycle with
    | .quiet => if s.trigger then freeze p s else s
    | .armed =>
      match s.link, s.inFlight with
      | .acked, some f => commit p f s
      | _, _ => s
    | .initial =>
      match s.link, s.inFlight with
      | .acked, some f => applyStartUp f s
      | _, _ => s
    | .preparing | .settling => s

end Sys2Proof.Machine
end

