-- ==== Sys2Proof/Machine/Frame.lean ====
section
/-! DEFINITION. The frame event: the frame counter, every countdown, the expiries and the freeze or commit test (R12 to
R16, R35, R64, R88, R93, R96, R107, R117, R127, R155), and the rows of the expiries. -/

namespace Sys2Proof.Machine

/-! ### Counting -/

/-- A life with its hold or wait limit counted down by one frame event (R35, R88). -/
def countedLife : Life → Option Life
  | .live a p (some n) => some (.live a p (some (n - 1)))
  | .pending a r (some n) => some (.pending a r (some (n - 1)))
  | .live _ _ none | .pending _ _ none | .free | .staged _ _ | .adding _ _ _ _ _ | .retiring _ _ _ | .dropping _ _ _ _
  | .cooling _ _ _ => none

/-- A conduct record with its recovery countdown counted down by one while it is above 0 (R155). -/
def ConductRecord.counted (c : ConductRecord) : ConductRecord := { c with recovery := c.recovery.map (· - 1) }

/-- A LIVE entry whose hold remaining stands at 0. -/
def Life.holdOut : Life → Bool
  | .live _ _ (some 0) => true
  | _ => false

/-- A PENDING entry whose wait limit remaining stands at 0. -/
def Life.waitOut : Life → Bool
  | .pending _ _ (some 0) => true
  | _ => false

/-- The cadence countdown runs (R96). -/
def Profile.cadenceRuns (p : Profile) : Bool := decide (p.triggerSource ≠ .demand)

/-- The countdowns of one frame event: the frame counter is raised (R15) and every countdown that runs is moved by 1; the
acknowledgement wait counts while HOLDOFF is deasserted (R127). -/
def countFrame (p : Profile) (holdoff : Bool) (s : State) : State :=
  { mapLives (fun _ l => countedLife l) s with
    frameCounter := s.frameCounter + 1
    pace := s.pace.map (· - 1)
    conduct := s.conduct.map ConductRecord.counted
    cadence := if p.cadenceRuns then s.cadence - 1 else s.cadence
    prepareLeft := if s.cycle = .preparing then s.prepareLeft.map (· - 1) else s.prepareLeft
    settleLeft := if s.cycle = .settling then s.settleLeft.map (· - 1) else s.settleLeft
    ackWait := if s.link = .waitAck ∧ holdoff = false then s.ackWait.map (· + 1) else s.ackWait }

/-- The expiries that a frame event which led from `old` to `s` brings about: each countdown that has reached its end by
this frame event's count. The order of the list is the order in which the model takes them where the command names no
other (log entry 2). -/
def dueAfter (p : Profile) (old s : State) : List FrameItem :=
  (if p.cadenceRuns ∧ s.cadence = 0 then [.cadence] else [])
    ++ (s.entriesWith Life.holdOut).map .hold
    ++ (s.waitList.filter fun e => (s.life e).waitOut).map .lapse
    ++ (allTenants.filter fun t => decide (0 < old.pace[t]) && decide (s.pace[t] = 0)).map .pace
    ++ (allTenants.filter fun t =>
          decide (0 < ((old.record t).recovery.getD 0)) && decide ((s.record t).recovery = some 0)).map .recovery
    ++ (if s.cycle = .preparing ∧ s.prepareLeft = some 0 then [.prepareTimeout] else [])
    ++ (if s.cycle = .settling ∧ s.settleLeft = some 0 then [.settleEnd] else [])
    ++ (if s.link = .waitAck ∧ s.ackWait = some Config.ackWaitMax then [.ackWait] else [])

/-! ### The expiries -/

/-- The cadence countdown has run out: the trigger flag is set and the countdown is loaded again (R96). -/
def cadenceOut (p : Profile) (s : State) : State :=
  if s.cadence = 0 then { s with trigger := true, cadence := p.cadenceFrames } else s

/-- A hold has run out: the LIVE entry becomes RETIRING and an EXPIRED notice is issued (R35). -/
def holdOut (e : EntryIx) (s : State) : State :=
  match s.life e with
  | .live a p (some 0) =>
    issue a.tenant (.expired e (s.entry e).generation a.direction p.first a.width) (setLife e (.retiring a p false) s)
  | _ => s

/-- A wait limit has run out: the PENDING entry leaves the list, becomes FREE and a LAPSED notice is issued (R89). -/
def waitOut (e : EntryIx) (s : State) : State :=
  match s.life e with
  | .pending a r (some 0) =>
    issue a.tenant (.lapsed e (s.entry e).generation a.direction a.windowLo a.windowHi a.width r)
      (setLife e .free (leaveList e s))
  | _ => s

/-- A recovery countdown has run out: recovery in AUTO; in ON_REQUEST it stays at 0 and RECOVER is accepted (R156). -/
def recoveryOut (p : Profile) (t : Tenant) (s : State) : State :=
  let c := s.record t
  if c.isolated ∧ c.recovery = some 0 ∧ p.recoveryMode = .auto then takeRecovery p t .auto s else s

/-- The prepare countdown has run out (R107). -/
def prepareOut (p : Profile) (s : State) : State :=
  if s.cycle = .preparing ∧ s.prepareLeft = some 0 then timeOut p s else s

/-- The settle countdown has run out (R118). -/
def settleOut (s : State) : State :=
  if s.cycle = .settling ∧ s.settleLeft = some 0 then endSettle s else s

/-- The acknowledgement-wait count has reached 4: CANCEL is handed to the link, and the image has failed (R127). -/
def ackWaitOut (s : State) : State :=
  match s.link, s.inFlight with
  | .waitAck, some f => if s.ackWait = some Config.ackWaitMax then imageFailed f (handCancel f s) else s
  | _, _ => s

/-- The effect of one expiry. -/
def expire (p : Profile) (it : FrameItem) (s : State) : State :=
  match it with
  | .cadence => cadenceOut p s
  | .hold e => holdOut e s
  | .lapse e => waitOut e s
  | .pace _ => requestSweep s
  | .recovery t => recoveryOut p t s
  | .prepareTimeout => prepareOut p s
  | .settleEnd => settleOut s
  | .ackWait => ackWaitOut s

/-- Take one expiry when it is due; otherwise the event does not occur and nothing changes. -/
def takeExpiry (it : FrameItem) (s : State) : State :=
  match s.device with
  | .running p => if it ∈ s.due then expire p it { s with due := s.due.erase it } else s
  | _ => s

/-- Take what the last frame event left due, in the model's order: every command but the expiries' own does so first, so
a frame event is over before anything else happens (log entry 2). -/
def settleDue (s : State) : State := s.due.foldl (fun s it => takeExpiry it s) s

/-! ### The frame event -/

/-- One frame event (R93): counting, then the expiries in the order the command names and the model's, then the freeze or
commit test by the cycle state as it stood when the frame event came. A cadence expiry is never left until after a freeze
test (R96, R99). -/
def frameEvent (p : Profile) (holdoff : Bool) (o : FrameOrder) (s : State) : State :=
  let counted := countFrame p holdoff s
  let s1 := { counted with due := dueAfter p s counted }
  let s2 := o.early.foldl (fun s it => takeExpiry it s) s1
  let now := s2.due.filter fun it => !(o.late.contains it) || (decide (it = .cadence) && decide (s.cycle = .quiet))
  let s3 := now.foldl (fun s it => takeExpiry it s) s2
  cycleTest p s.cycle holdoff s3

/-- FRAME_PULSE (R13): a frame event when RUNNING with source EXTERNAL, otherwise ignored (R12, R14). HOLDOFF is the level at the
frame event (log entry 15). -/
def execFramePulse (holdoff : Bool) (o : FrameOrder) (s : State) : Host.Outcome State Fault Refusal :=
  let s := settleDue s
  match s.device with
  | .running p => if p.frameSource = .external then .next (frameEvent p holdoff o s) else .next s
  | _ => .next s

/-- INTERNAL_FRAME_COUNTDOWN (R14): the countdown runs out; a frame event, and the countdown is loaded again. It does not
run in other states or with source EXTERNAL. Its units of 10 µs are not counted: log entry 16. -/
def execInternalFrameCountdown (holdoff : Bool) (o : FrameOrder) (s : State) : Host.Outcome State Fault Refusal :=
  let s := settleDue s
  match s.device with
  | .running p =>
    if p.frameSource = .internal then
      .next { frameEvent p holdoff o s with internalCountdown := some p.framePeriod }
    else .next s
  | _ => .next s

/-- CADENCE_EXPIRY (R96). -/
def execCadenceExpiry (s : State) : Host.Outcome State Fault Refusal := .next (takeExpiry .cadence s)

/-- PREPARE_TIMEOUT (R107). -/
def execPrepareTimeout (s : State) : Host.Outcome State Fault Refusal := .next (takeExpiry .prepareTimeout s)

/-- SETTLE_END (R118). -/
def execSettleEnd (s : State) : Host.Outcome State Fault Refusal := .next (takeExpiry .settleEnd s)

/-- HOLD_EXPIRY (R35). -/
def execHoldExpiry (e : EntryIx) (s : State) : Host.Outcome State Fault Refusal := .next (takeExpiry (.hold e) s)

/-- LAPSE (R89). -/
def execLapse (e : EntryIx) (s : State) : Host.Outcome State Fault Refusal := .next (takeExpiry (.lapse e) s)

/-- PACE_EXPIRY (R64). -/
def execPaceExpiry (t : Tenant) (s : State) : Host.Outcome State Fault Refusal := .next (takeExpiry (.pace t) s)

/-- ACK_WAIT_EXPIRY (R127). -/
def execAckWaitExpiry (s : State) : Host.Outcome State Fault Refusal := .next (takeExpiry .ackWait s)

/-- RECOVERY_COUNTDOWN_EXPIRY (R156). -/
def execRecoveryCountdownExpiry (t : Tenant) (s : State) : Host.Outcome State Fault Refusal :=
  .next (takeExpiry (.recovery t) s)

end Sys2Proof.Machine
end

