-- ==== Sys2Proof/Machine/Link.lean ====
section
/-! DEFINITION. The Plan Link Interface: frames sent, and ACK and NAK (R123, R125, R126, R129, R177). -/

namespace Sys2Proof.Machine

/-- The image send at the head of the transmit order ends: the link becomes WAIT_ACK with the count at 0 (R123). -/
def endImageSend (s : State) : State :=
  match s.transmit with
  | .image f :: rest =>
    { s with transmit := rest, pltx := (OutFrame.image f).bytes, link := .waitAck, ackWait := some 0 }
  | _ => s

/-- A start-up image that waits for the transmit order to be empty is handed over (R129). -/
def handWaiting (s : State) : State :=
  match s.transmit, s.startUpWaiting with
  | [], some image => handImage image { s with startUpWaiting := none }
  | _, _ => s

/-- The APPLY or CANCEL frame at the head of the transmit order is wholly sent and leaves it (R123). -/
def endFrameSend (s : State) : State :=
  match s.transmit with
  | .apply e n :: rest => handWaiting { s with transmit := rest, pltx := (OutFrame.apply e n).bytes }
  | .cancel e n :: rest => handWaiting { s with transmit := rest, pltx := (OutFrame.cancel e n).bytes }
  | _ => s

/-- An answer's epoch and send number are those of the image in flight (R125, R126). -/
def answers (epoch : BitVec 32) (send : Byte) (f : Flight) : Bool :=
  decide (f.image.epoch = epoch) && decide (f.send = send)

/-- An ACK arrives (R125). -/
def takeAck (epoch : BitVec 32) (send : Byte) (s : State) : State :=
  match s.profile?, s.link, s.inFlight with
  | some _, .waitAck, some f => if answers epoch send f then { s with link := .acked, ackWait := none } else s
  | _, _, _ => s

/-- A matching NAK fails the image in flight (R126); for a start-up image CANCEL precedes the resend (R129). -/
def refuseImage (f : Flight) (s : State) : State :=
  match f.image.kind with
  | .batch => imageFailed f s
  | .startUp => imageFailed f (handCancel f s)

/-- A NAK arrives (R126). -/
def takeNak (epoch : BitVec 32) (send : Byte) (s : State) : State :=
  match s.profile?, s.link, s.inFlight with
  | some _, .waitAck, some f => if answers epoch send f then refuseImage f s else s
  | some _, .acked, some f => if answers epoch send f then refuseImage f s else s
  | _, _, _ => s

/-- IMAGE_SEND_END (R123). -/
def execImageSendEnd (s : State) : Host.Outcome State Fault Refusal := .next (endImageSend (settleDue s))

/-- TRANSMIT_FRAME_DONE (R123). -/
def execTransmitFrameDone (s : State) : Host.Outcome State Fault Refusal := .next (endFrameSend (settleDue s))

/-- ACK (R125). -/
def execAck (epoch : BitVec 32) (send : Byte) (s : State) : Host.Outcome State Fault Refusal :=
  .next (takeAck epoch send (settleDue s))

/-- NAK (R126). -/
def execNak (epoch : BitVec 32) (send : Byte) (s : State) : Host.Outcome State Fault Refusal :=
  .next (takeNak epoch send (settleDue s))

/-- PLRX_FRAME_DISCARD (R177): the frame has no effect on the link state or the count. -/
def execPlrxFrameDiscard (_ : List Byte) (s : State) : Host.Outcome State Fault Refusal := .next (settleDue s)

end Sys2Proof.Machine
end

