-- ==== Sys2Proof/Machine/Engine.lean ====
section
/-! DEFINITION. The Plan Engine: the arbiter's grant, the completion of each kind of evaluation, and the sweep step (R27,
R37 to R40, R45, R46, R48 to R53, R75, R82 to R87, R104 to R106). -/

namespace Sys2Proof.Machine

/-! ### The checks every request takes (R154, R165) -/

/-- The kind of an evaluated request. -/
def requestKind : EngineRequest → FrameKind
  | .place _ => .place
  | .release _ => .release
  | .withdraw _ => .withdraw
  | .querySpan _ => .querySpan
  | .queryMap _ _ => .queryMap
  | .ready _ => .ready
  | .refuse _ => .refuse

/-- A port mode allows a request kind (R165). FETCH is no request. -/
def PortMode.allows : PortMode → FrameKind → Bool
  | .offline, k => decide (k = .status) || decide (k = .mode)
  | .config, k => [FrameKind.status, .mode, .readNotice, .setNoticeMask, .readLog, .queryMap].contains k
  | .active, _ => true
  | .paused, k => decide (k ≠ .place)

/-- The kinds answered to an isolated tenant (R154). -/
def answeredIsolated (k : FrameKind) : Bool := [FrameKind.status, .readNotice, .readLog, .recover].contains k

/-- The checks of R165 in order; `none` when all pass. -/
def requestCheck (t : Tenant) (k : FrameKind) (s : State) : Option ResponseCode :=
  if s.deviceState ≠ .running ∧ k ≠ .status then some .notRunning
  else if (s.record t).isolated then (if answeredIsolated k then none else some .isolated)
  else if (s.port t).mode.allows k then none
  else if k = .place ∧ (s.port t).mode = .paused then some .paused
  else some .notAllowed

/-- Place a response: the request slot is emptied in the same step (R50, R169). -/
def respond (t : Tenant) (k : FrameKind) (a : Answer) (s : State) : State :=
  s.setPort t { s.port t with request := none, response := some ⟨k.code, a.1, a.2⟩ }

/-! ### The arbiter (R49) -/

/-- The ring of requesters from a position on. -/
def ringFrom : Requester → List Requester
  | .port 0 => [.port 0, .port 1, .port 2, .port 3, .sweep]
  | .port 1 => [.port 1, .port 2, .port 3, .sweep, .port 0]
  | .port 2 => [.port 2, .port 3, .sweep, .port 0, .port 1]
  | .port 3 => [.port 3, .sweep, .port 0, .port 1, .port 2]
  | .sweep => [.sweep, .port 0, .port 1, .port 2, .port 3]

/-- The requester that follows in the ring. -/
def Requester.next : Requester → Requester
  | .port 0 => .port 1
  | .port 1 => .port 2
  | .port 2 => .port 3
  | .port 3 => .sweep
  | .sweep => .port 0

/-- A requester waits: a port whose slot holds a request not yet started, the sweep while RUNNING with an entry at its
position (R48, R82). -/
def State.waiting (s : State) (r : Requester) : Bool :=
  match r with
  | .port t => (s.port t).request.isSome && decide (s.inHand ≠ some (.port t))
  | .sweep =>
    match s.sweep with
    | .running (.entry _) _ => !s.stepInHand
    | _ => false

/-- The arbiter grants the engine when it is IDLE, the device is RUNNING and a requester waits (R48, R49). -/
def grantEngine (s : State) : State :=
  match s.inHand, s.profile? with
  | none, some _ =>
    match (ringFrom s.arbiter).find? s.waiting with
    | some r => { s with inHand := some r, arbiter := r.next }
    | none => s
  | _, _ => s

/-! ### The completion of a port's evaluation (R50) -/

/-- The evaluation in hand completes, when it is one for a port's request that `select` picks: checks 2 and 3 of R165,
then `eval`, then the response and the end of the evaluation, in one step. Otherwise the event does not occur. -/
def completeFor {α : Type} (select : EngineRequest → Option α)
    (eval : Profile → Tenant → α → State → State × Answer) (s : State) : State :=
  match s.inHand, s.profile? with
  | some (.port t), some p =>
    match (s.port t).request with
    | some r =>
      match select r with
      | some x =>
        let (s', a) := match requestCheck t (requestKind r) s with
          | some c => (s, refusal c)
          | none => eval p t x s
        { respond t (requestKind r) a s' with inHand := none }
      | none => s
    | none => s
  | _, _ => s

/-- A valid handle of tenant `t`: the generation matches, the entry is in neither FREE nor COOLING and is `t`'s (R27). -/
def validHandle (t : Tenant) (h : Handle) (s : State) : Option EntryIx :=
  let e : EntryIx := h.index.toFin
  if (s.entry e).generation = h.generation ∧ (s.life e).counted? = some t then some e else none

/-- A RELEASE of an ADDING entry without release mark in PREPARING (R39). -/
def releaseFromBatch (t : Tenant) (e : EntryIx) (s : State) : State :=
  let s1 := requestSweep (setLife e .free s)
  if t ∈ s1.expected ∧ s1.owesAnswer t = false then proceed (leaveExpected t s1) else s1

/-- The RELEASE evaluation (R37 to R40). -/
def evalRelease (_ : Profile) (t : Tenant) (h : Handle) (s : State) : State × Answer :=
  match validHandle t h s with
  | none => (s, refusal .gone)
  | some e =>
    match s.life e with
    | .pending _ _ _ => (s, refusal .notPlaced)
    | .staged _ _ => (requestSweep (setLife e .free s), refusal .ok)
    | .adding a p b false f =>
      if s.cycle = .preparing then (releaseFromBatch t e s, refusal .ok)
      else (setLife e (.adding a p b true f) s, refusal .ok)
    | .live a p _ => (setLife e (.retiring a p false) s, refusal .ok)
    | .adding _ _ _ true _ | .retiring _ _ _ | .dropping _ _ _ _ => (s, refusal .alreadyRetiring)
    | .free | .cooling _ _ _ => (s, refusal .gone)

/-- The WITHDRAW evaluation (R86). -/
def evalWithdraw (_ : Profile) (t : Tenant) (h : Handle) (s : State) : State × Answer :=
  match validHandle t h s with
  | none => (s, refusal .gone)
  | some e =>
    match s.life e with
    | .pending _ _ _ => (setLife e .free (leaveList e s), refusal .ok)
    | .staged _ _ | .adding _ _ _ _ _ | .live _ _ _ | .retiring _ _ _ | .dropping _ _ _ _ => (s, refusal .notPending)
    | .free | .cooling _ _ _ => (s, refusal .gone)

/-- The QUERY_SPAN evaluation (R45). -/
def evalQuerySpan (_ : Profile) (t : Tenant) (h : Handle) (s : State) : State × Answer :=
  match validHandle t h s with
  | none => (s, refusal .gone)
  | some e =>
    ({ s with freeCount := s.freeCount + 1 },
     (.ok, .span e (s.entry e) (Config.clampedBitOfPending s.freeCount)))

/-- The map value of a granule as tenant `t` may see it (R46). -/
def mapValue (p : Profile) (t : Tenant) (s : State) (g : Nat) : MapValue :=
  let touches (l : Life) : Bool := match l.occupies? with
    | some (a, q) => covers q.first a.width g
    | none => false
  let lives := (s.table.toList.map Entry.life).filter touches
  if p.accessAt t g = .none then .hidden
  else if lives.any fun l => match l with | .cooling _ _ _ => true | _ => false then .cooling
  else if lives.any fun l => decide (l.tenant? = some t) then .own
  else if !lives.isEmpty then .taken
  else if p.openAt g = false then .closed
  else .free

/-- The QUERY_MAP evaluation (R46). -/
def evalQueryMap (p : Profile) (t : Tenant) (x : BitVec 16 × Byte) (s : State) : State × Answer :=
  let lo := x.1.toNat
  let count := x.2.toNat
  if 1 ≤ count ∧ count ≤ 64 ∧ lo + count - 1 ≤ Config.lastGranule then
    (s, (.ok, .map ((List.range count).map fun k => mapValue p t s (lo + k))))
  else (s, refusal .badField)

/-- Tests 3 and 4 of R104; `none` when they pass. -/
def batchCheck (t : Tenant) (batch : BitVec 16) (s : State) : Option ResponseCode :=
  if s.cycle ≠ .preparing ∨ batch ≠ s.batch then some .stale
  else if t ∉ s.expected then some .notAffected
  else none

/-- The READY evaluation (R104, R105). -/
def evalReady (_ : Profile) (t : Tenant) (batch : BitVec 16) (s : State) : State × Answer :=
  match batchCheck t batch s with
  | some c => (s, refusal c)
  | none => (proceed (credit t .readyCredit (leaveExpected t s)), refusal .ok)

/-- The REFUSE evaluation (R104, R106): the tenant's part is withdrawn, the refusal charge handed over, R108 applied,
and the purge taken when the charge isolated the tenant (R152). The ISOLATED notice comes before what R108 issues (DEDUCED,
log entry 9). -/
def evalRefuse (p : Profile) (t : Tenant) (batch : BitVec 16) (s : State) : State × Answer :=
  match batchCheck t batch s with
  | some c => (s, refusal c)
  | none =>
    let (s1, isolated) := charge p t 2 .refusal (withdrawPart t s)
    let s2 := proceed s1
    (if isolated then purge t s2 else s2, refusal .ok)

/-! ### The sweep step (R75, R82, R83) -/

/-- The step in hand is over; END is handled at once (R83, R84). -/
def endStep (s : State) : State := { s with inHand := none, sweep := s.sweep.settled false s.waitList }

/-- The position moves past entry `e` to the one that follows it (R83). -/
def advance (e : EntryIx) (s : State) : State := { s with sweep := s.sweep.movedPast e s.waitList }

/-- The sweep step acts on the entry at the position (R75, R82, R83, R85). -/
def stepOn (p : Profile) (e : EntryIx) (s : State) : State :=
  match s.life e with
  | .pending a _ w =>
    if (s.port a.tenant).mode = .paused then advance e s
    else
      match fitChecks p s a with
      | .ok q =>
        issue a.tenant (.granted (grantInfo e (s.entry e).generation a q)) (leaveList e (stage p e a q s))
      | .error r => advance e (setLife e (.pending a r w) s)
  | .free | .staged _ _ | .adding _ _ _ _ _ | .live _ _ _ | .retiring _ _ _ | .dropping _ _ _ _ | .cooling _ _ _ =>
    advance e s

/-- The sweep step in hand completes; without one in hand the event does not occur. -/
def sweepStep (s : State) : State :=
  match s.inHand, s.profile? with
  | some .sweep, some p =>
    match s.sweep with
    | .running (.entry e) _ => endStep (stepOn p e s)
    | .running .listEnd _ => endStep s
    | .idle => endStep s
  | _, _ => s

/-! ### The rows -/

/-- ARBITER_GRANT (R49). -/
def execArbiterGrant (s : State) : Host.Outcome State Fault Refusal := .next (grantEngine (settleDue s))

/-- PLACE (R52): the PLACE evaluation in hand completes. -/
def execPlace (s : State) : Host.Outcome State Fault Refusal :=
  .next (completeFor (fun r => match r with | .place f => some f | _ => none) evalPlace (settleDue s))

/-- RELEASE (R37). -/
def execRelease (s : State) : Host.Outcome State Fault Refusal :=
  .next (completeFor (fun r => match r with | .release h => some h | _ => none) evalRelease (settleDue s))

/-- WITHDRAW (R86). -/
def execWithdraw (s : State) : Host.Outcome State Fault Refusal :=
  .next (completeFor (fun r => match r with | .withdraw h => some h | _ => none) evalWithdraw (settleDue s))

/-- QUERY_SPAN (R45). -/
def execQuerySpan (s : State) : Host.Outcome State Fault Refusal :=
  .next (completeFor (fun r => match r with | .querySpan h => some h | _ => none) evalQuerySpan (settleDue s))

/-- QUERY_MAP (R46). -/
def execQueryMap (s : State) : Host.Outcome State Fault Refusal :=
  .next (completeFor (fun r => match r with | .queryMap lo n => some (lo, n) | _ => none) evalQueryMap (settleDue s))

/-- READY (R105). -/
def execReady (s : State) : Host.Outcome State Fault Refusal :=
  .next (completeFor (fun r => match r with | .ready b => some b | _ => none) evalReady (settleDue s))

/-- REFUSE (R106). -/
def execRefuse (s : State) : Host.Outcome State Fault Refusal :=
  .next (completeFor (fun r => match r with | .refuse b => some b | _ => none) evalRefuse (settleDue s))

/-- SWEEP_STEP (R83). -/
def execSweepStep (s : State) : Host.Outcome State Fault Refusal := .next (sweepStep (settleDue s))

end Sys2Proof.Machine
end

