-- ==== Sys2Proof/Machine/Ports.lean ====
section
/-! DEFINITION. The tenant ports: chip select, frames, the requests answered at their acceptance, FETCH, and port reset
(R97, R146, R154, R157, R162 to R176). -/

namespace Sys2Proof.Machine

/-! ### Frames -/

/-- The port takes no frame: RST_n or TnPRST_n is asserted (R172, R174). -/
def State.inert (s : State) (t : Tenant) : Bool := s.rstAsserted || (s.port t).prst

/-- The status header a frame takes as chip select is asserted, with the response a FETCH carries (R170, R176). -/
def headerNow (p : Port) : FrameUnderWay := ⟨p.mode, p.request.isSome, p.queue.length, p.response⟩

/-- A request frame of `n` bytes has ended: the port sent 0x00 on every byte (R176), and no frame is under way. -/
def endRequestFrame (t : Tenant) (n : Nat) (s : State) : State :=
  s.setPort t { s.port t with underWay := none, sdo := List.replicate n 0 }

/-- CHIP_SELECT_ASSERTED (R170, R176): the header is taken; ignored while the port takes no frame. With a frame already under way
this is the beginning of a new one, which takes its place (DESIGN CHOICE, log entry 28). -/
def execChipSelectAsserted (t : Tenant) (s : State) : Host.Outcome State Fault Refusal :=
  let s := settleDue s
  if s.inert t then .next s
  else .next (s.setPort t { s.port t with underWay := some (headerNow (s.port t)) })

/-- MALFORMED_FRAME (R168, R175): the frame is discarded and the malformed flag set, when its bytes fail the test. What
the port sent during it R176 gives where the kind byte names a request (DEDUCED, log entry 22); otherwise those bytes are free
values (DESIGN CHOICE, log entry 5). -/
def execMalformedFrame (t : Tenant) (bytes : List Byte) (s : State) : Host.Outcome State Fault Refusal :=
  let s := settleDue s
  if s.inert t ∨ (passingKind bytes).isSome then .next s
  else
    let n := bytes.length
    let known := (bytes.head?.bind kindOfByte).isSome
    let out := if known then List.replicate n 0 else (List.range n).map fun j => Config.unknownFrameOut (s.freeCount + j)
    .next { s.setPort t { s.port t with malformed := true, underWay := none, sdo := out } with
      freeCount := if known then s.freeCount else s.freeCount + n }

/-- REQUEST_ACCEPTED (R165 check 1, R169): accepted into an empty slot, an unfetched response being discarded, or
discarded as collided; answered at once with NOT_RUNNING when the device is not RUNNING (R24). -/
def execRequestAccepted (t : Tenant) (r : EngineRequest) (s : State) : Host.Outcome State Fault Refusal :=
  let s := settleDue s
  if s.inert t then .next s
  else
    let s1 := endRequestFrame t (((requestKind r).length).getD 0) s
    let p := s1.port t
    if p.request.isSome then .next (s1.setPort t { p with collided := true })
    else if s.deviceState ≠ .running then
      .next (respond t (requestKind r) (refusal .notRunning) (s1.setPort t { p with response := none }))
    else .next (s1.setPort t { p with request := some r, response := none })

/-- A request that is taken at its acceptance (R169): discarded as collided while the slot is occupied; otherwise the
unfetched response is discarded, the checks of R165 are made, `act` takes it, and its response is placed in the same
step. -/
def takeNow (t : Tenant) (k : FrameKind) (act : State → State × Answer) (s : State) : State :=
  if s.inert t then s
  else
    let s1 := endRequestFrame t (k.length.getD 0) s
    let p := s1.port t
    if p.request.isSome then s1.setPort t { p with collided := true }
    else
      let s2 := s1.setPort t { p with response := none }
      let (s3, a) := match requestCheck t k s2 with
        | some c => (s2, refusal c)
        | none => act s2
      respond t k a s3

/-! ### The requests taken at their acceptance -/

/-- STATUS (R171): the values as they stand; then the missed, collided and malformed flags are cleared. -/
def actStatus (t : Tenant) (s : State) : State × Answer :=
  let p := s.port t
  (s.setPort t { p with missed := 0, collided := false, malformed := false },
   (.ok, .status ⟨s.deviceState, s.loadFault?, s.frameCounter, p.mode, s.cycle, s.batch, s.epoch, s.record t, p.mask,
     p.queue.length, p.missed, p.collided, p.malformed⟩))

/-- The mode a target byte encodes (R166, R179). -/
def modeOf (b : Byte) : Option PortMode :=
  if b = 0 then some .offline else if b = 1 then some .config else if b = 2 then some .active
  else if b = 3 then some .paused else none

/-- Set a port's mode. -/
def setMode (t : Tenant) (m : PortMode) (s : State) : State := s.setPort t { s.port t with mode := m }

/-- The withdrawal: the mode is set, then the purge of the tenant is invoked (R167). -/
def withdrawal (t : Tenant) (m : PortMode) (s : State) : State := purge t (setMode t m s)

/-- The tenant's record is enabled in the profile held (R9, R166). -/
def State.recordEnabled (s : State) (t : Tenant) : Bool :=
  match s.profile? with
  | some p => (p.tenant t).enabled
  | none => false

/-- MODE (R166, R167). -/
def actMode (t : Tenant) (target : Byte) (s : State) : State × Answer :=
  match modeOf target with
  | none => (s, refusal .badField)
  | some m =>
    match (s.port t).mode, m with
    | .offline, .offline => (s, refusal .ok)
    | .offline, .config =>
      if s.recordEnabled t then (setMode t .config s, refusal .ok) else (s, refusal .disabled)
    | .offline, .active | .offline, .paused => (s, refusal .notAllowed)
    | .config, .offline => (setMode t .offline s, refusal .ok)
    | .config, .config => (s, refusal .ok)
    | .config, .active => (setMode t .active s, refusal .ok)
    | .config, .paused => (s, refusal .notAllowed)
    | .active, .paused => (setMode t .paused s, refusal .ok)
    | .active, .active => (s, refusal .ok)
    | .paused, .active => (requestSweep (setMode t .active s), refusal .ok)
    | .paused, .paused => (s, refusal .ok)
    | .active, .config | .paused, .config => (withdrawal t .config s, refusal .ok)
    | .active, .offline | .paused, .offline => (withdrawal t .offline s, refusal .ok)

/-- TRIGGER (R97). -/
def actTrigger (t : Tenant) (s : State) : State × Answer :=
  match s.profile? with
  | some p =>
    if (p.tenant t).mayTrigger ∧ p.triggerSource ≠ .cadence then ({ s with trigger := true }, refusal .ok)
    else (s, refusal .noTrigger)
  | none => (s, refusal .notRunning)

/-- READ_LOG (R146): BAD_FIELD for a limit outside 1..8; from the record named by `start` when the log holds it, none
when it is the next sequence, otherwise the oldest with lost set. -/
def actReadLog (start : BitVec 16) (limit : Byte) (s : State) : State × Answer :=
  let n := limit.toNat
  if n < 1 ∨ 8 < n then (s, refusal .badField)
  else
    let answer (records : List Violation) (lost : Bool) : Answer :=
      (.ok, .log s.logSeq s.log.length lost (records.take n))
    if start = s.logSeq then (s, answer [] false)
    else if s.log.any fun v => decide (v.seq = start) then
      (s, answer (s.log.dropWhile fun v => decide (v.seq ≠ start)) false)
    else (s, answer s.log true)

/-- RECOVER (R157). -/
def actRecover (t : Tenant) (s : State) : State × Answer :=
  match s.profile? with
  | none => (s, refusal .notRunning)
  | some p =>
    let c := s.record t
    if c.isolated = false then (s, refusal .notAllowed)
    else
      match p.recoveryMode with
      | .latched => (s, refusal .latched)
      | .auto => (s, refusal .tooEarly)
      | .onRequest =>
        if c.recovery = some 0 then (takeRecovery p t .request s, refusal .ok) else (s, refusal .tooEarly)

/-- READ_NOTICE (R163): the oldest notice with the number that remain, or EMPTY. -/
def actReadNotice (t : Tenant) (s : State) : State × Answer :=
  match (s.port t).queue with
  | [] => (s, refusal .empty)
  | n :: rest => (s.setPort t { s.port t with queue := rest }, (.ok, .notice rest.length n))

/-- SET_NOTICE_MASK (R164); bits 11..15 are ignored (R175). -/
def actSetNoticeMask (t : Tenant) (mask : BitVec 16) (s : State) : State × Answer :=
  (s.setPort t { s.port t with mask := mask.setWidth 11 }, refusal .ok)

/-- STATUS (R171). -/
def execStatus (t : Tenant) (s : State) : Host.Outcome State Fault Refusal :=
  .next (takeNow t .status (actStatus t) (settleDue s))

/-- MODE (R166). -/
def execMode (t : Tenant) (target : Byte) (s : State) : Host.Outcome State Fault Refusal :=
  .next (takeNow t .mode (actMode t target) (settleDue s))

/-- TRIGGER (R97). -/
def execTrigger (t : Tenant) (s : State) : Host.Outcome State Fault Refusal :=
  .next (takeNow t .trigger (actTrigger t) (settleDue s))

/-- READ_LOG (R146). -/
def execReadLog (t : Tenant) (start : BitVec 16) (limit : Byte) (s : State) : Host.Outcome State Fault Refusal :=
  .next (takeNow t .readLog (actReadLog start limit) (settleDue s))

/-- RECOVER (R157). -/
def execRecover (t : Tenant) (s : State) : Host.Outcome State Fault Refusal :=
  .next (takeNow t .recover (actRecover t) (settleDue s))

/-- READ_NOTICE (R163). -/
def execReadNotice (t : Tenant) (s : State) : Host.Outcome State Fault Refusal :=
  .next (takeNow t .readNotice (actReadNotice t) (settleDue s))

/-- SET_NOTICE_MASK (R164). -/
def execSetNoticeMask (t : Tenant) (mask : BitVec 16) (s : State) : Host.Outcome State Fault Refusal :=
  .next (takeNow t .setNoticeMask (actSetNoticeMask t mask) (settleDue s))

/-! ### FETCH and port reset -/

/-- A FETCH frame of `count` bytes ends (R170, R176): the port has sent the header taken at chip select and the response
it carries, and the response slot is emptied when the frame carried the response whole. A FETCH whose chip select had no
command of its own began as the state now stands (log entry 7). -/
def fetchFrame (t : Tenant) (count : Nat) (s : State) : State :=
  let p := s.port t
  let f := p.underWay.getD (headerNow p)
  s.setPort t { p with
    underWay := none
    sdo := f.fetchBytes count
    response := if f.carriedWhole count then none else p.response }

/-- FETCH (R170). A FETCH has at least its kind byte (R175). -/
def execFetch (t : Tenant) (count : Nat) (s : State) : Host.Outcome State Fault Refusal :=
  let s := settleDue s
  if s.inert t ∨ count = 0 then .next s else .next (fetchFrame t count s)

/-- What a reset of any kind leaves of a port: OFFLINE, empty slots and queue, every kind enabled, flags clear
(R172, R174). -/
def Port.cleared (p : Port) : Port :=
  { p with mode := .offline, request := none, response := none, queue := [], mask := 0x7FF#11, missed := 0,
           collided := false, malformed := false }

/-- PORT_RESET (R51, R172, R173): OFFLINE, the purge when the port was ACTIVE or PAUSED, the evaluation in hand for this
port discarded, slots, queue and flags cleared, a frame under way cut off, and TnPRST_n is now asserted. -/
def execPortReset (t : Tenant) (s : State) : Host.Outcome State Fault Refusal :=
  let s := settleDue s
  let s1 := setMode t .offline s
  let s2 := if (s.port t).mode.takesPart then purge t s1 else s1
  let s3 := s2.setPort t { (s2.port t).cleared with prst := true, underWay := none }
  .next (if s3.inHand = some (.port t) then { s3 with inHand := none } else s3)

/-- PORT_RESET_RELEASE (R172): the port is OFFLINE with empty slots and an empty queue, and takes frames again. Nothing
occurs where TnPRST_n was not asserted. A recovery taken meanwhile set CONFIG, which the release ends (DEDUCED, log entry
11). -/
def execPortResetRelease (t : Tenant) (s : State) : Host.Outcome State Fault Refusal :=
  let s := settleDue s
  if (s.port t).prst then
    .next (s.setPort t { s.port t with mode := .offline, request := none, response := none, queue := [], prst := false })
  else .next s

end Sys2Proof.Machine
end

