-- ==== Sys2Proof/Machine/Loader.lean ====
section
/-! DEFINITION. The Profile Loader and the resets: device reset, reload, the read of the profile image, its checks and
their outcome (R17 to R25, R178, R179; the reset tables R47, R51, R92, R119, R130, R147, R160, R174). -/

namespace Sys2Proof.Machine

/-! ### Reading fields (R178, R179) -/

/-- Byte `i` of a run as a whole number. -/
def u8 (b : List Byte) (i : Nat) : Nat := (b.getD i 0).toNat

/-- Two bytes from `i` on. -/
def u16 (b : List Byte) (i : Nat) : Nat := u8 b i * 256 + u8 b (i + 1)

/-- Three bytes from `i` on. -/
def u24 (b : List Byte) (i : Nat) : Nat := u16 b i * 256 + u8 b (i + 2)

/-- A signed byte. -/
def i8 (b : List Byte) (i : Nat) : Int := (b.getD i 0).toInt

/-- A field's value when it lies in its range. -/
def within (lo hi x : Nat) : Option Nat := if lo ≤ x ∧ x ≤ hi then some x else none

/-- A signed field's value when it lies in its range. -/
def withinInt (lo hi x : Int) : Option Int := if lo ≤ x ∧ x ≤ hi then some x else none

/-- The value an enumeration's code names, its values listed in the order of their codes 0, 1, 2, … -/
def ofCode {α : Type} (values : List α) (code : Nat) : Option α := values[code]?

/-- A yes or no byte. -/
def yesNo (code : Nat) : Option Bool := ofCode [false, true] code

/-- The signed optional density cap, 0x80 for none (R178). -/
def capField (b : List Byte) (i : Nat) : Option (Option Int) :=
  if u8 b i = 0x80 then some none else (withinInt (-8) 6 (i8 b i)).map some

/-- The optional priority override, 0xFF for none (R178). -/
def priorityField (b : List Byte) (i : Nat) : Option (Option Nat) :=
  if u8 b i = 0xFF then some none else (within 0 7 (u8 b i)).map some

/-- The image header's and table records' sizes in bytes (R178). -/
def headerBytes : Nat := 7
def plantBytes : Nat := 35
def tenantBytes : Nat := 11
def regionBytes : Nat := 7
def ruleBytes : Nat := 19

/-- The size that a region count and a rule count give (R178). -/
def imageSize (regions rules : Nat) : Nat := 86 + regionBytes * regions + ruleBytes * rules

/-- A tenant record's 11 bytes, each field in its range (R21, R178). -/
def readTenant (b : List Byte) : Option TenantRecord := do
  let enabled ← yesNo (u8 b 0)
  let cls ← ofCode [ServiceClass.data, .video, .voice] (u8 b 1)
  let upQuota ← within 0 1200 (u16 b 2)
  let downQuota ← within 0 1200 (u16 b 4)
  let entryQuota ← within 1 64 (u8 b 6)
  let mayTrigger ← yesNo (u8 b 8)
  let ruleBase ← within 0 63 (u8 b 9)
  let ruleCount ← within 0 64 (u8 b 10)
  some { enabled, cls, upQuota, downQuota, entryQuota, paceFrames := u8 b 7, mayTrigger, ruleBase, ruleCount }

/-- The access code in two bits of a byte; every value names one (R178). -/
def accessCode (byte k : Nat) : Access :=
  match byte / 4 ^ k % 4 with
  | 0 => .none
  | 1 => .observe
  | 2 => .request
  | _ => .anchor

/-- A region descriptor's 7 bytes (R3, R21, R178). -/
def readRegion (b : List Byte) : Option Region := do
  let lo ← within 0 Config.lastGranule (u16 b 0)
  let hi ← within 0 Config.lastGranule (u16 b 2)
  let dir ← ofCode [Direction.up, .down] (u8 b 4)
  let state ← ofCode [RegionState.opened, .closed] (u8 b 5)
  some { lo, hi, dir, state,
         access := #v[accessCode (u8 b 6) 0, accessCode (u8 b 6) 1, accessCode (u8 b 6) 2, accessCode (u8 b 6) 3] }

/-- An admission rule's 19 bytes (R11, R21, R178). -/
def readRule (b : List Byte) : Option AdmissionRule := do
  let enabled ← yesNo (u8 b 0)
  let direction ← ofCode [some Direction.up, some .down, none] (u8 b 1)
  let lo ← within 0 Config.lastGranule (u16 b 6)
  let hi ← within 0 Config.lastGranule (u16 b 8)
  let minWidth ← within 0 1200 (u16 b 10)
  let fixedWidth ← within 0 1200 (u16 b 12)
  let cap ← capField b 14
  let priority ← priorityField b 15
  let action ← ofCode [RuleAction.allow, .deny] (u8 b 18)
  some { enabled, direction, codeValue := BitVec.ofNat 16 (u16 b 2), codeMask := BitVec.ofNat 16 (u16 b 4), lo, hi,
         minWidth, fixedWidth, cap, priority, tag := BitVec.ofNat 16 (u16 b 16), action }

/-- `n` records of `size` bytes each from the head of a run, every one in range. -/
def readRecords {α : Type} (read : List Byte → Option α) (size : Nat) : Nat → List Byte → Option (List α)
  | 0, _ => some []
  | n + 1, b => do
    let x ← read (b.take size)
    let xs ← readRecords read size n (b.drop size)
    some (x :: xs)

/-- The guard values of a plant section (R6, R178). -/
def readGuards (b : List Byte) : Option GuardTable := do
  let dataData ← within 0 8 (u8 b 13)
  let dataVideo ← within 0 8 (u8 b 14)
  let dataVoice ← within 0 8 (u8 b 15)
  let videoVideo ← within 0 8 (u8 b 16)
  let videoVoice ← within 0 8 (u8 b 17)
  let voiceVoice ← within 0 8 (u8 b 18)
  some { dataData, dataVideo, dataVoice, videoVideo, videoVoice, voiceVoice }

/-- The whole image read field by field: the profile when every field lies in its range under R21, else `none`.
FramePeriod is not tested here. -/
def readProfile (image : List Byte) : Option Profile := do
  let b := image.drop headerBytes
  let usTop ← within 0 1196 (u16 b 0)
  let dsLo ← within 2 1198 (u16 b 2)
  let dsBaseLim ← withinInt (-8) 6 (i8 b 4)
  let tiltSpan ← within 0 12 (u8 b 5)
  let usLim ← withinInt (-8) 6 (i8 b 6)
  let usBudget ← within 0 4892400 (u24 b 7)
  let dsBudget ← within 0 4892400 (u24 b 10)
  let guards ← readGuards b
  let frameSource ← ofCode [FrameSource.external, .internal] (u8 b 19)
  let triggerSource ← ofCode [TriggerSource.cadence, .demand, .both] (u8 b 22)
  let cadenceFrames ← within 1 4096 (u16 b 23)
  let prepareFrames ← within 1 64 (u8 b 25)
  let rankMode ← ofCode [RankMode.byPriority, .byArrival] (u8 b 27)
  let enforcement ← ofCode [Enforcement.off, .record, .report, .confine] (u8 b 28)
  let overMargin ← withinInt 1 6 (u8 b 29)
  let strayLimit ← withinInt (-40) 20 (i8 b 30)
  let strayReach ← within 0 8 (u8 b 31)
  let recoveryMode ← ofCode [RecoveryMode.auto, .onRequest, .latched] (u8 b 32)
  let recoveryFrames ← within 1 65535 (u16 b 33)
  let t := b.drop plantBytes
  let t0 ← readTenant (t.take tenantBytes)
  let t1 ← readTenant ((t.drop tenantBytes).take tenantBytes)
  let t2 ← readTenant ((t.drop (2 * tenantBytes)).take tenantBytes)
  let t3 ← readTenant ((t.drop (3 * tenantBytes)).take tenantBytes)
  let tables := t.drop (4 * tenantBytes)
  let regions ← readRecords readRegion regionBytes (u8 image 5) tables
  let rules ← readRecords readRule ruleBytes (u8 image 6) (tables.drop (regionBytes * u8 image 5))
  some { usTop, dsLo, dsBaseLim, tiltSpan, usLim, usBudget, dsBudget, guards, frameSource, framePeriod := u16 b 20,
         triggerSource, cadenceFrames, prepareFrames, settleFrames := u8 b 26, rankMode, enforcement, overMargin,
         strayLimit, strayReach, recoveryMode, recoveryFrames, tenants := #v[t0, t1, t2, t3], regions, rules }

/-! ### The checks (R20) -/

/-- A test holds of every two different members of a list, by place. -/
def allPairs {α : Type} (test : α → α → Bool) : List α → Bool
  | [] => true
  | x :: rest => rest.all (test x) && allPairs test rest

/-- Check 1 (R20): format code, counts, and a length field that is at most 1,536 and the size the counts give. -/
def lengthOk (image : List Byte) : Bool :=
  decide (u8 image 0 = 0x3C) && decide (u8 image 5 ≤ 16) && decide (u8 image 6 ≤ 64)
    && decide (u16 image 1 ≤ Config.imageMax) && decide (u16 image 1 = imageSize (u8 image 5) (u8 image 6))

/-- Check 2 (R20, R177): the CRC-16 of every byte after the CRC field. -/
def crcOk (image : List Byte) : Bool := decide (crc16 (image.drop 5) = BitVec.ofNat 16 (u16 image 3))

/-- Check 4 (R20). -/
def directionsOk (p : Profile) : Bool := decide (p.usTop + 2 ≤ p.dsLo)

/-- Check 5 (R20): each region has lo ≤ hi and lies within its direction's range, and no two share a granule. -/
def regionsOk (p : Profile) : Bool :=
  (p.regions.all fun r => decide (r.lo ≤ r.hi) && p.inDirection r.dir r.lo r.hi)
    && allPairs (fun a b => decide (a.hi < b.lo) || decide (b.hi < a.lo)) p.regions

/-- Check 6 (R20): each rule's range is ordered, each block lies within the table, and no two blocks share a rule. -/
def ruleBlocksOk (p : Profile) : Bool :=
  (p.rules.all fun r => decide (r.lo ≤ r.hi))
    && (p.tenants.toList.all fun t => decide (t.ruleCount = 0) || decide (t.ruleBase + t.ruleCount ≤ p.rules.length))
    && allPairs (fun a b => decide (a.ruleCount = 0) || decide (b.ruleCount = 0)
        || decide (a.ruleBase + a.ruleCount ≤ b.ruleBase) || decide (b.ruleBase + b.ruleCount ≤ a.ruleBase))
        p.tenants.toList

/-- Check 7 (R20). -/
def framePeriodOk (p : Profile) : Bool :=
  decide (p.frameSource = .external) || (decide (100 ≤ p.framePeriod) && decide (p.framePeriod ≤ 2000))

/-- The checks of R20 in order: the profile, or the reason of the first that fails. -/
def checkImage (image : List Byte) : Except LoadFault Profile :=
  if lengthOk image = false then .error .length
  else if crcOk image = false then .error .crc
  else
    match readProfile image with
    | none => .error .range
    | some p =>
      if directionsOk p = false then .error .direction
      else if regionsOk p = false then .error .region
      else if ruleBlocksOk p = false then .error .ruleBlock
      else if framePeriodOk p = false then .error .framePeriod
      else .ok p

/-- The first `n` bytes that a configuration memory presents: a blank or absent memory presents ones (R19), and so does the
model past the bytes given (DEDUCED, log entry 14). -/
def presented : Nat → List Byte → List Byte
  | 0, _ => []
  | n + 1, [] => 0xFF :: presented n []
  | n + 1, b :: rest => b :: presented n rest

/-- What the loader reads (R19): as many bytes as the length field gives, but at most 1,536 and at least the header. -/
def readImage (memory : List Byte) : List Byte :=
  presented (max headerBytes (min Config.imageMax (u16 (presented headerBytes memory) 1))) memory

/-! ### Resets -/

/-- The Span Table emptied with its sums, the Plan Engine idle, the Pending List empty and the sweep IDLE (R47, R51,
R92). The generations are left to the kind of reset. -/
def clearPlan (s : State) : State :=
  { s with load := ⟨0, 0⟩, held := Vector.replicate 4 ⟨0, 0⟩, entryCount := Vector.replicate 4 0,
           inHand := none, arbiter := .port 0, pace := Vector.replicate 4 0, waitList := [], sweep := .idle }

/-- The Switchover Controller after a device reset or reload, but for the batch and epoch numbers (R119). The cadence
countdown is loaded at the next successful load, and a reload leaves it alone until then (DESIGN CHOICE, log entry 20). -/
def clearCycle (s : State) : State :=
  { s with cycle := .initial, trigger := false, expected := [], called := [], prepareLeft := none,
           settleLeft := none, changed := [] }

/-- The monitor and the conduct records after a device reset or reload (R147, R160). -/
def clearMonitorAndConduct (s : State) : State :=
  { s with reports := [], evaluating := false, log := [], logSeq := 0, conduct := Vector.replicate 4 resetConduct }

/-- DEVICE_RESET (R17, R25, R47, R51, R92, R119, R130, R147, R160, R174): RST_n is asserted. The level of TnPRST_n of
each port is an input and stays. -/
def execDeviceReset (s : State) : Host.Outcome State Fault Refusal :=
  .next { State.reset with
    ports := s.ports.map fun p => { resetPort with prst := p.prst }
    freeCount := s.freeCount
    pending := s.pending }

/-- RST_RELEASE (R17, R18): a load begins; nothing occurs where RST_n was not asserted. -/
def execRstRelease (s : State) : Host.Outcome State Fault Refusal :=
  let s := settleDue s
  if s.rstAsserted then .next { s with device := .starting (some .afterDeviceReset), staged := [] } else .next s

/-- The transmit order after a reload (R130): the image send is cut, other frames are completed, and a CANCEL for an image
in flight follows. -/
def reloadTransmit (s : State) : List OutFrame :=
  (s.transmit.filter fun f => match f with | .image _ => false | _ => true)
    ++ match s.inFlight with
       | some f => [.cancel f.image.epoch f.send]
       | none => []

/-- The beginning of a load on a LOAD_n pulse (R18, R25): every block applies its reload effects. Generations, batch,
epoch and send numbers, the frame counter and frames under way are kept, a report transfer under way among them (log entry
25). -/
def beginReload (s : State) : State :=
  let s1 := clearMonitorAndConduct (clearCycle (clearPlan s))
  { s1 with
    device := .starting (some .afterReload), staged := [], internalCountdown := none
    table := s.table.map fun e => { e with life := .free }
    transmit := reloadTransmit s, inFlight := none, link := .idle, ackWait := none, startUpWaiting := none
    ports := s.ports.map Port.cleared }

/-- RELOAD (R17, R18): ignored while RST_n is asserted. -/
def execReload (s : State) : Host.Outcome State Fault Refusal :=
  let s := settleDue s
  if s.rstAsserted then .next s else .next (beginReload s)

/-! ### The completion of a load (R19 to R23, R94, R129) -/

/-- The start-up image of a load of this kind (R94, R124, R129). -/
def startUpImage (kind : LoadKind) (s : State) : PlanImage :=
  { epoch := match kind with | .afterDeviceReset => 0 | .afterReload => s.epoch + 1
    kind := .startUp, batch := s.batch, spans := [] }

/-- Every check passes (R22): RUNNING with the profile; the frame source, the cadence countdown and the start-up image
are started, the image once the transmit order is empty (R14, R96, R129). -/
def loadSuccess (kind : LoadKind) (p : Profile) (s : State) : State :=
  handWaiting { s with
    device := .running p, staged := []
    internalCountdown := if p.frameSource = .internal then some p.framePeriod else none
    cadence := p.cadenceFrames
    startUpWaiting := some (startUpImage kind s) }

/-- LOAD_COMPLETE (R19 to R23): the staged image is checked; nothing occurs where no load is in progress. -/
def execLoadComplete (memory : List Byte) (s : State) : Host.Outcome State Fault Refusal :=
  let s := settleDue s
  match s.device with
  | .starting (some kind) =>
    let s1 := { s with staged := s.staged ++ readImage memory }
    match checkImage s1.staged with
    | .ok p => .next (loadSuccess kind p s1)
    | .error r => .next { s1 with device := .fault r, staged := [] }
  | _ => .next s

end Sys2Proof.Machine
end

