-- ==== Sys2Proof/Machine/Monitor.lean ====
section
/-! DEFINITION. The Spectrum Monitor: the arrival of reports, and their evaluation with its records, notices and conduct
hand-overs (R132 to R145, R177). -/

namespace Sys2Proof.Machine

/-! ### Arrival (R132 to R135) -/

/-- A received value brought into the measured range: 127 is not measured, the rest is clamped to −40..+20 (R133). What tells 127
from a value at or below −40 afterwards: `judge`, log entry 27. -/
def clampValue (b : Byte) : Option Int := if b = 127 then none else some (max (-40) (min 20 b.toInt))

/-- The frame checks of a report (R177): no bits after its last whole byte, a length of 5 + count, and the CRC of the
bytes before the CRC. -/
def reportFrameOk (bytes : List Byte) (strayBits : Bool) : Bool :=
  let n := bytes.length
  !strayBits && decide (3 ≤ n) && decide (n = 5 + u8 bytes 2)
    && decide (crc16 (bytes.take (n - 2)) = BitVec.ofNat 16 (u16 bytes (n - 2)))

/-- The report that a run of bytes carries, its values clamped; `none` when R132 discards it for what it holds. -/
def readReport (bytes : List Byte) (strayBits : Bool) : Option Report :=
  let first := u16 bytes 0
  let count := u8 bytes 2
  if reportFrameOk bytes strayBits ∧ 1 ≤ count ∧ count ≤ 32 ∧ first + count - 1 ≤ Config.lastGranule then
    some ⟨first, ((bytes.drop 3).take count).map clampValue⟩
  else none

/-- A report arrives (R132, R134, R135): it joins the queue when it passes its tests, its transfer began while MREADY was
asserted, and the device is RUNNING in a mode other than OFF; otherwise it is discarded. A report whose transfer had no
command of its own began as it arrived (log entry 7). One whose transfer a reload found under way, and which arrives when
the device is RUNNING again, is judged as any other (DESIGN CHOICE, log entry 25). -/
def arriveReport (bytes : List Byte) (strayBits : Bool) (s : State) : State :=
  let ready := s.transfer.getD s.mready
  let s1 := { s with transfer := none }
  match readReport bytes strayBits, s.profile? with
  | some r, some p => if ready ∧ p.enforcement ≠ .off then { s1 with reports := s1.reports ++ [r] } else s1
  | _, _ => s1

/-- MEASUREMENT_REPORT (R134). -/
def execMeasurementReport (bytes : List Byte) (strayBits : Bool) (s : State) : Host.Outcome State Fault Refusal :=
  .next (arriveReport bytes strayBits (settleDue s))

/-- REPORT_TRANSFER_BEGIN (R132): whether MREADY is asserted as the transfer begins. With a transfer already under way this is
the beginning of a new one, which takes its place (DESIGN CHOICE, log entry 28). -/
def execReportTransferBegin (s : State) : Host.Outcome State Fault Refusal :=
  let s := settleDue s
  .next { s with transfer := some s.mready }

/-- REPORT_EVALUATION_BEGIN (R136). -/
def execReportEvaluationBegin (s : State) : Host.Outcome State Fault Refusal :=
  let s := settleDue s
  if s.reports ≠ [] ∧ s.evaluating = false then .next { s with evaluating := true } else .next s

/-! ### Judging (R137 to R139) -/

/-- A finding at a granule. -/
structure Finding where
  granule : Nat
  kind    : ViolationKind
  party   : Option Tenant
  excess  : Int
deriving DecidableEq, Repr

/-- The distance from granule `g` to the span of `width` granules from `first` on, 0 inside it (R139). -/
def distance (g first width : Nat) : Nat :=
  if g < first then first - g else if first + width ≤ g then g - (first + width - 1) else 0

/-- A tenant's smallest distance to its on-air spans within `reach`, if any (R139). -/
def tenantDistance (onAir : List (Asked × Placed)) (reach g : Nat) (t : Tenant) : Option Nat :=
  ((onAir.filter fun x => decide (x.1.tenant = t)).map fun x => distance g x.2.first x.1.width).filter
    (fun d => decide (d ≤ reach)) |>.min?

/-- The tenant a STRAY finding at `g` is attributed to (R139): within reach and nearer than every other tenant. -/
def strayParty (onAir : List (Asked × Placed)) (reach g : Nat) : Option Tenant :=
  allTenants.find? fun t =>
    match tenantDistance onAir reach g t with
    | none => false
    | some d => allTenants.all fun u => decide (u = t) ||
        match tenantDistance onAir reach g u with
        | none => true
        | some d' => decide (d < d')

/-- The granule lies in the changed-granule set. -/
def State.isChanged (s : State) (g : Nat) : Bool := s.changed.any fun c => covers c.first c.width g

/-- The on-air entry that covers a granule, if any (R137). -/
def coveringOnAir (onAir : List (Asked × Placed)) (g : Nat) : Option (Asked × Placed) :=
  onAir.find? fun x => covers x.2.first x.1.width g

/-- A granule's judgement (R137 to R139): the tenant whose on-air granule was tested for OVERPOWER, if one was, and the
finding, if there is one. A granule of value 127 is skipped; one received at or below −40 is evaluated as −40, gives no finding
either, and counts as tested for the credit of R144. R133 gives the two marks "the same result", which is read as: no finding
(DEDUCED, log entry 27). -/
def judge (p : Profile) (s : State) (g : Nat) (value : Option Int) : Option Tenant × Option Finding :=
  match value with
  | none => (none, none)
  | some v =>
    if s.isChanged g then (none, none)
    else
      match coveringOnAir s.onAir g with
      | some (a, q) =>
        let excess := v - q.density - p.overMargin
        (some a.tenant, if 0 < excess then some ⟨g, .overpower, some a.tenant, excess⟩ else none)
      | none =>
        let excess := v - p.strayLimit
        (none, if 0 < excess then some ⟨g, .stray, strayParty s.onAir p.strayReach g, excess⟩ else none)

/-- The judgements of a report's granules, in ascending order. -/
def judgeAll (p : Profile) (s : State) : Nat → List (Option Int) → List (Option Tenant × Option Finding)
  | _, [] => []
  | g, v :: rest => judge p s g v :: judgeAll p s (g + 1) rest

/-! ### Records and the log (R140, R141) -/

/-- The pairs of kind and party, in the order their records join the log (R140). -/
def recordOrder : List (ViolationKind × Option Tenant) :=
  (allTenants.map fun t => (.overpower, some t)) ++ (allTenants.map fun t => (.stray, some t)) ++ [(.stray, none)]

/-- The findings of one kind and party merged into a record, its log sequence still open (R140). -/
def mergeRecord (s : State) (findings : List Finding) (key : ViolationKind × Option Tenant) : Option Violation :=
  match findings.filter fun f => decide (f.kind = key.1) && decide (f.party = key.2) with
  | [] => none
  | f :: rest =>
    some { seq := 0, frame := s.frameCounter, epoch := s.epoch, tenant := key.2, kind := key.1, first := f.granule,
           count := rest.length + 1, worst := rest.foldl (fun w x => max w x.excess) f.excess }

/-- A record joins the log at its newest end, with the log sequence; the oldest leaves a full log (R141). -/
def joinLog (v : Violation) (s : State) : State × Violation :=
  let v' := { v with seq := s.logSeq }
  let kept := if Config.logMax ≤ s.log.length then s.log.drop 1 else s.log
  ({ s with log := kept ++ [v'], logSeq := s.logSeq + 1 }, v')

/-- Records join the log in order; the answer has them with their sequences. -/
def joinAll : List Violation → State → State × List Violation
  | [], s => (s, [])
  | v :: rest, s =>
    let (s1, v') := joinLog v s
    let (s2, vs) := joinAll rest s1
    (s2, v' :: vs)

/-! ### Enforcement (R142 to R145) -/

/-- The VIOLATION notice of a record, when it is attributed (R143). -/
def notifyRecord (v : Violation) (s : State) : State :=
  match v.tenant with
  | some t => issue t (.violation v) s
  | none => s

/-- The conduct hand-over for tenant `t` (R144, R145): a restart for an isolated tenant with a record; in CONFINE a charge
of 8 with a record, or a credit when judged with none. The answer says whether a charge isolated it. -/
def handOver (p : Profile) (t : Tenant) (blamed judged : Bool) (s : State) : State × Bool :=
  if (s.record t).isolated then (if blamed then restartRecovery p t s else s, false)
  else if p.enforcement ≠ .confine then (s, false)
  else if blamed then charge p t 8 .violation s
  else if judged then (credit t .cleanCredit s, false)
  else (s, false)

/-- The evaluation of the head report completes (R136, R140 to R145), and the next begins when the queue is not then empty
(R136; in the same step: DEDUCED, log entry 10); the purges of the tenants it isolated follow (R142, R152; log entry 8). -/
def evaluateReport (p : Profile) (r : Report) (rest : List Report) (s : State) : State :=
  let judgements := judgeAll p s r.first r.values
  let findings := judgements.filterMap fun j => j.2
  let (s1, records) := joinAll (recordOrder.filterMap (mergeRecord s findings)) s
  let notify := decide (p.enforcement = .report) || decide (p.enforcement = .confine)
  let s2 := if notify then records.foldl (fun s v => notifyRecord v s) s1 else s1
  let (s3, isolated) := allTenants.foldl
    (fun (s, ts) t =>
      let blamed := records.any fun v => decide (v.tenant = some t)
      let judged := judgements.any fun j => decide (j.1 = some t)
      let (s', now) := handOver p t blamed judged s
      (s', if now then ts ++ [t] else ts))
    (s2, ([] : List Tenant))
  purgeAll isolated { s3 with reports := rest, evaluating := !rest.isEmpty }

/-- REPORT_EVALUATION (R136): the evaluation in hand completes; without one in hand nothing occurs. -/
def execReportEvaluation (s : State) : Host.Outcome State Fault Refusal :=
  let s := settleDue s
  match s.evaluating, s.profile?, s.reports with
  | true, some p, r :: rest => .next (evaluateReport p r rest s)
  | _, _, _ => .next s

end Sys2Proof.Machine
end

