-- ==== Sys2Proof/Machine/Dispatch.lean ====
section
/-! DEFINITION. Every command's meaning: one arm per constructor of `Instr`. -/

namespace Sys2Proof.Machine

/-- A command's effect on everything but the queue. -/
def exec (i : Instr) (s : State) : Host.Outcome State Fault Refusal :=
  match i with
  | .deviceReset => Sys2Proof.Machine.execDeviceReset s
  | .rstRelease => Sys2Proof.Machine.execRstRelease s
  | .reload => Sys2Proof.Machine.execReload s
  | .loadComplete memory => Sys2Proof.Machine.execLoadComplete memory s
  | .framePulse holdoff order => Sys2Proof.Machine.execFramePulse holdoff order s
  | .internalFrameCountdown holdoff order => Sys2Proof.Machine.execInternalFrameCountdown holdoff order s
  | .cadenceExpiry => Sys2Proof.Machine.execCadenceExpiry s
  | .prepareTimeout => Sys2Proof.Machine.execPrepareTimeout s
  | .settleEnd => Sys2Proof.Machine.execSettleEnd s
  | .holdExpiry e => Sys2Proof.Machine.execHoldExpiry e s
  | .lapse e => Sys2Proof.Machine.execLapse e s
  | .paceExpiry t => Sys2Proof.Machine.execPaceExpiry t s
  | .ackWaitExpiry => Sys2Proof.Machine.execAckWaitExpiry s
  | .recoveryCountdownExpiry t => Sys2Proof.Machine.execRecoveryCountdownExpiry t s
  | .malformedFrame t bytes => Sys2Proof.Machine.execMalformedFrame t bytes s
  | .requestAccepted t r => Sys2Proof.Machine.execRequestAccepted t r s
  | .arbiterGrant => Sys2Proof.Machine.execArbiterGrant s
  | .place => Sys2Proof.Machine.execPlace s
  | .release => Sys2Proof.Machine.execRelease s
  | .withdraw => Sys2Proof.Machine.execWithdraw s
  | .querySpan => Sys2Proof.Machine.execQuerySpan s
  | .queryMap => Sys2Proof.Machine.execQueryMap s
  | .ready => Sys2Proof.Machine.execReady s
  | .refuse => Sys2Proof.Machine.execRefuse s
  | .sweepStep => Sys2Proof.Machine.execSweepStep s
  | .status t => Sys2Proof.Machine.execStatus t s
  | .mode t target => Sys2Proof.Machine.execMode t target s
  | .trigger t => Sys2Proof.Machine.execTrigger t s
  | .readLog t start limit => Sys2Proof.Machine.execReadLog t start limit s
  | .recover t => Sys2Proof.Machine.execRecover t s
  | .readNotice t => Sys2Proof.Machine.execReadNotice t s
  | .setNoticeMask t mask => Sys2Proof.Machine.execSetNoticeMask t mask s
  | .fetch t count => Sys2Proof.Machine.execFetch t count s
  | .portReset t => Sys2Proof.Machine.execPortReset t s
  | .portResetRelease t => Sys2Proof.Machine.execPortResetRelease t s
  | .imageSendEnd => Sys2Proof.Machine.execImageSendEnd s
  | .transmitFrameDone => Sys2Proof.Machine.execTransmitFrameDone s
  | .ack epoch send => Sys2Proof.Machine.execAck epoch send s
  | .nak epoch send => Sys2Proof.Machine.execNak epoch send s
  | .plrxFrameDiscard bytes => Sys2Proof.Machine.execPlrxFrameDiscard bytes s
  | .measurementReport bytes strayBits => Sys2Proof.Machine.execMeasurementReport bytes strayBits s
  | .reportEvaluationBegin => Sys2Proof.Machine.execReportEvaluationBegin s
  | .reportEvaluation => Sys2Proof.Machine.execReportEvaluation s
  | .chipSelectAsserted t => Sys2Proof.Machine.execChipSelectAsserted t s
  | .reportTransferBegin => Sys2Proof.Machine.execReportTransferBegin s

end Sys2Proof.Machine
end

