-- ==== Sys2Proof/Safety.lean ====
section
/-! DEFINITION. What holds of every state of the JBC-412, in the terms that statements use: the running sums, the Pending
List, the plan, the cycle with the plan link, the conduct records and the bounds of the queues. Also the situations that
statements about single commands begin from. -/

namespace Sys2Proof.Safety

open Machine

/-! ### Situations -/

/-- No expiry of the last frame event is still to be taken: the frame event is over (log entry 2). -/
def Settled (s : State) : Prop := s.due = []

/-- The evaluation in hand is port `t`'s request `r` and the device is RUNNING with profile `p` (R48, R50). -/
structure InEngine (s : State) (p : Profile) (t : Tenant) (r : EngineRequest) : Prop where
  settled   : Settled s
  running   : s.device = .running p
  inHand    : s.inHand = some (.port t)
  inSlot    : (s.port t).request = some r

/-- As `InEngine`, and the tenant is not isolated and its port's mode allows the request, so that the request's own chapter
decides the answer (R165). -/
structure Evaluating (s : State) (p : Profile) (t : Tenant) (r : EngineRequest) : Prop extends InEngine s p t r where
  notIsolated : (s.record t).isolated = false
  allowed     : (s.port t).mode.allows (requestKind r) = true

/-- A sweep step is in hand on the PENDING entry `e`, which stands at the sweep position (R82). -/
structure Stepping (s : State) (p : Profile) (e : EntryIx) (again : Bool) (a : Asked) (r : PendingReason)
    (w : Option Nat) : Prop where
  settled  : Settled s
  running  : s.device = .running p
  inHand   : s.inHand = some .sweep
  position : s.sweep = .running (.entry e) again
  pending  : s.life e = .pending a r w

/-- Port `t` takes frames and its request slot is empty, so that it accepts a request (R169, R172, R174). -/
structure Accepting (s : State) (t : Tenant) : Prop where
  settled : Settled s
  awake   : s.inert t = false
  empty   : (s.port t).request = none

/-- As `Accepting`, with the device RUNNING with profile `p`, the tenant not isolated and a port mode that allows the
request kind (R165). -/
structure Taking (s : State) (p : Profile) (t : Tenant) (k : FrameKind) : Prop extends Accepting s t where
  running     : s.device = .running p
  notIsolated : (s.record t).isolated = false
  allowed     : (s.port t).mode.allows k = true

/-- The state as a request frame of `n` bytes is accepted at port `t`: no frame under way, 0x00 sent on every byte (R176),
and an unfetched response discarded (R169). -/
def accept (t : Tenant) (n : Nat) (s : State) : State :=
  s.setPort t { s.port t with underWay := none, sdo := List.replicate n 0, response := none }

/-- A port after it has accepted a request frame of `n` bytes and the answer to it has been placed in the same step: slot
empty, the answer in the response slot in place of any earlier one (R169), 0x00 sent on every byte (R176). -/
def answered (k : FrameKind) (code : ResponseCode) (body : ResponseBody) (n : Nat) (p : Port) : Port :=
  { p with request := none, response := some ⟨k.code, code, body⟩, underWay := none, sdo := List.replicate n 0 }

/-- The end of port `t`'s evaluation: its request slot is emptied, its response is placed and the engine is IDLE (R50). -/
def concluded (t : Tenant) (k : FrameKind) (code : ResponseCode) (body : ResponseBody) (s : State) : State :=
  { s.setPort t { s.port t with request := none, response := some ⟨k.code, code, body⟩ } with inHand := none }

/-- A PLACE evaluation has passed steps 1 to 6: the request `q` is admitted as `a`, and entry `e` is the FREE entry of
lowest index (R28, R52, R62). -/
structure Allocating (s : State) (p : Profile) (t : Tenant) (f : PlaceFields) (q : PlaceAsk) (a : Asked)
    (e : EntryIx) : Prop extends Evaluating s p t (.place f) where
  admitted : admission p t f = .ok (q, a)
  isFree   : s.life e = .free
  lowest   : ∀ x : EntryIx, x.val < e.val → s.life x ≠ .free
  hasPlace : s.entryCount[t] < (p.tenant t).entryQuota

/-- All four fit checks pass on the request `a`, with the placement `g` (R64, R65, R67, R71). -/
structure FitsAt (p : Profile) (s : State) (a : Asked) (g : Nat) : Prop where
  pace  : s.pace[a.tenant] = 0
  quota : s.held[a.tenant].get a.direction + a.width ≤ (p.tenant a.tenant).quota a.direction
  room  : placement p s a = some g
  load  : s.load.get a.direction + a.width * weight (grantedDensity p a g) ≤ p.budget a.direction

/-- The first fit check that fails on the request `a` is this one (R64, R65, R67, R71). -/
def FitFails (p : Profile) (s : State) (a : Asked) : PendingReason → Prop
  | .pace => 0 < s.pace[a.tenant]
  | .quota => s.pace[a.tenant] = 0
      ∧ (p.tenant a.tenant).quota a.direction < s.held[a.tenant].get a.direction + a.width
  | .room => s.pace[a.tenant] = 0
      ∧ s.held[a.tenant].get a.direction + a.width ≤ (p.tenant a.tenant).quota a.direction
      ∧ placement p s a = none
  | .load => s.pace[a.tenant] = 0
      ∧ s.held[a.tenant].get a.direction + a.width ≤ (p.tenant a.tenant).quota a.direction
      ∧ ∃ g, placement p s a = some g
        ∧ p.budget a.direction < s.load.get a.direction + a.width * weight (grantedDensity p a g)

/-- A span placed at `g` with the density and load found there (R69, R70, R72). -/
def placedSpan (p : Profile) (a : Asked) (g : Nat) : Placed :=
  { first := g, density := grantedDensity p a g, load := a.width * weight (grantedDensity p a g),
    clamped := decide (grantedDensity p a g < a.density) }

/-- Where the sweep stands when no step is in hand, the position moves to `next` and `list` waits: on `next`, or at the end
of the list, taken at once (R83, R84). -/
def sweepOn (again : Bool) (list : List EntryIx) (next : Option EntryIx) : Sweep :=
  match next with
  | some x => .running (.entry x) again
  | none =>
    match again, list with
    | true, x :: _ => .running (.entry x) false
    | true, [] => .idle
    | false, _ => .idle

/-- The VIOLATION notices of a report's records, in record order (R143). -/
def notifyAll : List Violation → State → State
  | [], s => s
  | v :: rest, s => notifyAll rest (notifyRecord v s)

/-- A report's hand-overs to several tenants in order, with the tenants that they isolated (R144, R145). -/
def handOverAll (p : Profile) (blamed judged : Tenant → Bool) : List Tenant → State → State × List Tenant
  | [], s => (s, [])
  | t :: rest, s =>
    let (s1, now) := handOver p t (blamed t) (judged t) s
    let (s2, isolated) := handOverAll p blamed judged rest s1
    (s2, if now then t :: isolated else isolated)

/-- The findings of a report's evaluation, in ascending order of granule (R137 to R139). -/
def findingsOf (p : Profile) (s : State) (r : Report) : List Finding := (judgeAll p s r.first r.values).filterMap Prod.snd

/-- The records that a report's evaluation makes (R140, R141): one for each kind and party that has a finding, OVERPOWER by
tenant, then STRAY by tenant, then STRAY of none, each with the next log sequence, and with the frame counter and epoch of the
completion, its first granule, the number of its findings and the worst excess. -/
structure RecordsOf (p : Profile) (s : State) (r : Report) (records : List Violation) : Prop where
  ordered : records.Pairwise fun x y =>
      x.kind = .overpower ∧ y.kind = .stray
      ∨ x.kind = y.kind ∧ ∃ t, x.tenant = some t ∧ ∀ t', y.tenant = some t' → t.val < t'.val
  merged  : ∀ i v, records[i]? = some v → v.seq = s.logSeq + BitVec.ofNat 16 i ∧ v.frame = s.frameCounter ∧ v.epoch = s.epoch
      ∧ ∃ f fs, (findingsOf p s r).filter (fun x => decide (x.kind = v.kind) && decide (x.party = v.tenant)) = f :: fs
        ∧ v.first = f.granule ∧ v.count = (f :: fs).length
        ∧ (∃ x ∈ f :: fs, x.excess = v.worst) ∧ ∀ x ∈ f :: fs, x.excess ≤ v.worst
  every   : ∀ f ∈ findingsOf p s r, ∃ v ∈ records, v.kind = f.kind ∧ v.tenant = f.party

/-- The charges of several tenants handed over in order, with the tenants that they isolated (R107, R150). -/
def chargeAll (p : Profile) (amount : Nat) (cause : Cause) : List Tenant → State → State × List Tenant
  | [], s => (s, [])
  | t :: rest, s =>
    let (s1, now) := charge p t amount cause s
    let (s2, isolated) := chargeAll p amount cause rest s1
    (s2, if now then t :: isolated else isolated)

/-- The row of the opcode table at which the evaluation of a request completes. -/
def completion : EngineRequest → Instr
  | .place _ => .place
  | .release _ => .release
  | .withdraw _ => .withdraw
  | .querySpan _ => .querySpan
  | .queryMap _ _ => .queryMap
  | .ready _ => .ready
  | .refuse _ => .refuse

/-- The command that is one frame event of a frame source (R13, R14). -/
def frameCommand (source : FrameSource) (holdoff : Bool) (o : FrameOrder) : Instr :=
  match source with
  | .external => .framePulse holdoff o
  | .internal => .internalFrameCountdown holdoff o

/-- What stands in the internal frame countdown after a frame event: it is loaded again with FramePeriod when the source is
INTERNAL (R14). -/
def recounted (p : Profile) (old : Option Nat) : Option Nat :=
  match p.frameSource with
  | .external => old
  | .internal => some p.framePeriod

/-- The commands that are one expiry of a frame event each, and so take no other expiry first (log entry 2). -/
def isExpiry : Instr → Bool
  | .cadenceExpiry | .prepareTimeout | .settleEnd | .holdExpiry _ | .lapse _ | .paceExpiry _ | .ackWaitExpiry
  | .recoveryCountdownExpiry _ => true
  | .deviceReset | .rstRelease | .reload | .loadComplete _ | .framePulse _ _ | .internalFrameCountdown _ _
  | .malformedFrame _ _ | .requestAccepted _ _ | .arbiterGrant | .place | .release | .withdraw | .querySpan | .queryMap
  | .ready | .refuse | .sweepStep | .status _ | .mode _ _ | .trigger _ | .readLog _ _ _ | .recover _ | .readNotice _
  | .setNoticeMask _ _ | .fetch _ _ | .portReset _ | .portResetRelease _ | .imageSendEnd | .transmitFrameDone | .ack _ _
  | .nak _ _ | .plrxFrameDiscard _ | .measurementReport _ _ | .reportEvaluationBegin | .reportEvaluation
  | .chipSelectAsserted _ | .reportTransferBegin => false

/-- The commands that may change what is on air: the frame events, at which a commit is taken, and the two resets that
empty the Span Table (R34, R47). -/
def mayChangeAir : Instr → Bool
  | .framePulse _ _ | .internalFrameCountdown _ _ | .deviceReset | .reload => true
  | .rstRelease | .loadComplete _ | .cadenceExpiry | .prepareTimeout | .settleEnd | .holdExpiry _ | .lapse _
  | .paceExpiry _ | .ackWaitExpiry | .recoveryCountdownExpiry _
  | .malformedFrame _ _ | .requestAccepted _ _ | .arbiterGrant | .place | .release | .withdraw | .querySpan | .queryMap
  | .ready | .refuse | .sweepStep | .status _ | .mode _ _ | .trigger _ | .readLog _ _ _ | .recover _ | .readNotice _
  | .setNoticeMask _ _ | .fetch _ _ | .portReset _ | .portResetRelease _ | .imageSendEnd | .transmitFrameDone | .ack _ _
  | .nak _ _ | .plrxFrameDiscard _ | .measurementReport _ _ | .reportEvaluationBegin | .reportEvaluation
  | .chipSelectAsserted _ | .reportTransferBegin => false

/-- A requester's place in the ring port 0, port 1, port 2, port 3, sweep (R49). -/
def ringPlace : Requester → Nat
  | .port t => t.val
  | .sweep => 4

/-- Handle `h` names entry `e` of tenant `t` validly (R27). -/
structure Names (s : State) (t : Tenant) (h : Handle) (e : EntryIx) : Prop where
  index      : e.val = h.index.toNat
  generation : (s.entry e).generation = h.generation
  owner      : (s.life e).tenant? = some t
  notCooling : ∀ a p f, s.life e ≠ .cooling a p f

/-! ### A legal profile (R2 to R11, R20, R21) -/

/-- A profile within the ranges of R21 that satisfies the relations of R20. -/
structure LegalProfile (p : Profile) : Prop where
  split       : p.usTop + 2 ≤ p.dsLo ∧ p.dsLo ≤ 1198
  dsBaseLim   : -8 ≤ p.dsBaseLim ∧ p.dsBaseLim ≤ 6
  tiltSpan    : p.tiltSpan ≤ 12
  usLim       : -8 ≤ p.usLim ∧ p.usLim ≤ 6
  budgets     : ∀ d, p.budget d ≤ 4892400
  guards      : ∀ x y, p.guards.get x y ≤ 8
  framePeriod : p.frameSource = .internal → 100 ≤ p.framePeriod ∧ p.framePeriod ≤ 2000
  cadence     : 1 ≤ p.cadenceFrames ∧ p.cadenceFrames ≤ 4096
  prepare     : 1 ≤ p.prepareFrames ∧ p.prepareFrames ≤ 64
  settle      : p.settleFrames ≤ 255
  overMargin  : 1 ≤ p.overMargin ∧ p.overMargin ≤ 6
  stray       : -40 ≤ p.strayLimit ∧ p.strayLimit ≤ 20 ∧ p.strayReach ≤ 8
  recovery    : 1 ≤ p.recoveryFrames ∧ p.recoveryFrames ≤ 65535
  quotas      : ∀ t d, (p.tenant t).quota d ≤ 1200
  entryQuota  : ∀ t, 1 ≤ (p.tenant t).entryQuota ∧ (p.tenant t).entryQuota ≤ 64
  pace        : ∀ t, (p.tenant t).paceFrames ≤ 255
  ruleBlocks  : ∀ t, (p.tenant t).ruleBase ≤ 63 ∧ (p.tenant t).ruleCount ≤ 64
  blocks      : ∀ t, (p.tenant t).ruleCount = 0 ∨ (p.tenant t).ruleBase + (p.tenant t).ruleCount ≤ p.rules.length
  ownBlocks   : ∀ t u, t ≠ u → (p.tenant t).ruleCount = 0 ∨ (p.tenant u).ruleCount = 0
      ∨ (p.tenant t).ruleBase + (p.tenant t).ruleCount ≤ (p.tenant u).ruleBase
      ∨ (p.tenant u).ruleBase + (p.tenant u).ruleCount ≤ (p.tenant t).ruleBase
  regionCount : p.regions.length ≤ 16
  regions     : ∀ r ∈ p.regions, r.lo ≤ r.hi ∧ r.hi ≤ 1199 ∧ p.inDirection r.dir r.lo r.hi = true
  oneRegion   : p.regions.Pairwise fun a b => a.hi < b.lo ∨ b.hi < a.lo
  ruleTable   : p.rules.length ≤ 64
  rules       : ∀ r ∈ p.rules, r.lo ≤ r.hi ∧ r.hi ≤ 1199 ∧ r.minWidth ≤ 1200 ∧ r.fixedWidth ≤ 1200
      ∧ (∀ c, r.cap = some c → -8 ≤ c ∧ c ≤ 6) ∧ (∀ n, r.priority = some n → n ≤ 7)

/-! ### The running sums (R32, R33) -/

/-- The sum of the recorded loads of a direction's load set. -/
def loadSum (s : State) (d : Direction) : Nat := (s.table.toList.map fun e => e.life.loadIn d).sum

/-- The sum of the widths of tenant `t`'s quota set in a direction. -/
def heldSum (s : State) (t : Tenant) (d : Direction) : Nat := (s.table.toList.map fun e => e.life.heldIn t d).sum

/-- The number of tenant `t`'s entries in neither FREE nor COOLING. -/
def countSum (s : State) (t : Tenant) : Nat := (s.table.toList.map fun e => e.life.countIn t).sum

/-- Every running sum is the sum over its set (R32, R33). -/
structure SumsMatch (s : State) : Prop where
  load  : ∀ d, s.load.get d = loadSum s d
  held  : ∀ (t : Tenant) d, s.held[t].get d = heldSum s t d
  count : ∀ t : Tenant, s.entryCount[t] = countSum s t

/-- The accumulators stay within the budgets and the held-granule counts within the quotas; without a profile both are 0
(R8, R32, R33, R65, R71). -/
structure WithinLimits (s : State) : Prop where
  budget  : ∀ p, s.device = .running p → ∀ d, s.load.get d ≤ p.budget d
  quota   : ∀ p, s.device = .running p → ∀ (t : Tenant) d, s.held[t].get d ≤ (p.tenant t).quota d
  noLoad  : s.profile? = none → ∀ d, s.load.get d = 0
  noHeld  : s.profile? = none → ∀ (t : Tenant) d, s.held[t].get d = 0

/-! ### The plan (R31, R66) -/

/-- Spans in the plan keep clear of each other: no two entries of the occupancy set share a granule, and those of two
tenants in one direction keep the guard of their classes; without a profile nothing is in the plan. `clearOf` is
the test of R66. -/
structure PlanClear (s : State) : Prop where
  apart : ∀ p, s.device = .running p → ∀ e f a q b r, e ≠ f → (s.life e).occupies? = some (a, q) →
    (s.life f).occupies? = some (b, r) → clearOf p a q.first (b, r) = true
  empty : s.profile? = none → ∀ e, (s.life e).occupies? = none

/-- What R26 and R69 to R72 say of the entries, from the request to the span on air: every request asked for stays within its
ranges and its window within its direction; every span placed lies in its window, on ground that was permitted to its tenant, with
its density within the range, the request, the cap and the limit, and its load the width times the weight of that density. The
profile is legal, and without one every entry is FREE. -/
structure SpansOk (s : State) : Prop where
  legal     : ∀ p, s.device = .running p → LegalProfile p
  asked     : ∀ e a, (s.life e).asked? = some a → 1 ≤ a.width ∧ a.width ≤ 1200 ∧ -8 ≤ a.density ∧ a.density ≤ 6 ∧ a.priority ≤ 7
      ∧ (∀ c, a.cap = some c → -8 ≤ c ∧ c ≤ 6) ∧ a.windowLo + a.width ≤ a.windowHi + 1
  direction : ∀ p, s.device = .running p → ∀ e a, (s.life e).asked? = some a →
      p.inDirection a.direction a.windowLo a.windowHi = true
  placed    : ∀ e a q, (s.life e).occupies? = some (a, q) → a.windowLo ≤ q.first ∧ q.first + a.width ≤ a.windowHi + 1
      ∧ -8 ≤ q.density ∧ q.density ≤ a.density ∧ (∀ c, a.cap = some c → q.density ≤ c)
      ∧ (q.clamped = true ↔ q.density < a.density) ∧ q.load = a.width * weight q.density
  ground    : ∀ p, s.device = .running p → ∀ e a q, (s.life e).occupies? = some (a, q) →
      q.density ≤ densityLimit p a.direction q.first
      ∧ ∀ g, q.first ≤ g → g < q.first + a.width → p.permitted a.tenant g = true
  empty     : s.profile? = none → ∀ e, s.life e = .free

/-! ### The Pending List (R76 to R82) -/

/-- An entry in state PENDING. -/
def isPending : Life → Bool
  | .pending _ _ _ => true
  | .free | .staged _ _ | .adding _ _ _ _ _ | .live _ _ _ | .retiring _ _ _ | .dropping _ _ _ _ | .cooling _ _ _ => false

/-- The rank that an entry's request has on the list, lower is better (R77). -/
def rankAt (p : Profile) (s : State) (e : EntryIx) : Nat := (((s.life e).asked?).map (rankOf p.rankMode)).getD 0

/-- The Pending List holds every PENDING entry exactly once and nothing else, at most 64 of them, in rank order; the sweep position names
an entry of the list, or is END only while a step is in hand; no step is in hand while the sweep is IDLE
(R76, R77, R78, R80, R84). Without a profile the list is empty (R92). -/
structure ListOk (s : State) : Prop where
  once     : s.waitList.Nodup
  pending  : ∀ e, e ∈ s.waitList ↔ isPending (s.life e) = true
  bounded  : s.waitList.length ≤ Config.waitListMax
  ranked   : ∀ p, s.device = .running p → s.waitList.Pairwise fun x y => rankAt p s x ≤ rankAt p s y
  empty    : s.profile? = none → s.waitList = []
  position : ∀ e again, s.sweep = .running (.entry e) again → e ∈ s.waitList
  atEnd    : ∀ again, s.sweep = .running .listEnd again → s.inHand = some .sweep
  idle     : s.sweep = .idle → s.inHand ≠ some .sweep

/-! ### The cycle and the plan link (R93, R94, R101, R118, R122, R123) -/

/-- A life that may stand in the table in a cycle state, with the batch number: ADDING and DROPPING in PREPARING and ARMED
with the current batch, a release mark in ARMED alone, COOLING in SETTLING alone, and in INITIAL nothing past STAGED
(R37, R94, R101, R118). -/
def lifeFits (cycle : CycleState) (batch : BitVec 16) : Life → Bool
  | .free | .pending _ _ _ | .staged _ _ => true
  | .adding _ _ b mark _ =>
    decide (b = batch) && (decide (cycle = .armed) || (decide (cycle = .preparing) && !mark))
  | .dropping _ _ b _ => decide (b = batch) && (decide (cycle = .armed) || decide (cycle = .preparing))
  | .live _ _ _ | .retiring _ _ _ => decide (cycle ≠ .initial)
  | .cooling _ _ _ => decide (cycle = .settling)

/-- An outgoing frame that is an image. -/
def OutFrame.isImage : OutFrame → Bool
  | .image _ => true
  | .apply _ _ | .cancel _ _ => false

/-- The cycle state agrees with what stands beside it: the entries' states, the sets and countdowns of the cycle, and the
image in flight with the link state and the transmit order. -/
structure CycleOk (s : State) : Prop where
  lives     : ∀ e, lifeFits s.cycle s.batch (s.life e) = true
  prepare   : s.prepareLeft.isSome = decide (s.cycle = .preparing)
  settle    : s.settleLeft.isSome = decide (s.cycle = .settling)
  changed   : s.cycle ≠ .settling → s.changed = []
  expected  : s.expected = [] ↔ s.cycle ≠ .preparing
  called    : s.cycle ≠ .preparing → s.called = []
  subset    : ∀ t, t ∈ s.expected → t ∈ s.called
  armed     : s.cycle = .armed ↔ ∃ f, s.inFlight = some f ∧ f.image.kind = .batch
  startUp   : ∀ f, s.inFlight = some f → f.image.kind = .startUp → s.cycle = .initial
  flight    : s.inFlight = none ↔ s.link = .idle
  wait      : s.ackWait.isSome = decide (s.link = .waitAck)
  sending   : s.link = .sending → ∃ f pre, s.inFlight = some f ∧ s.transmit = pre ++ [.image f] ∧ pre.length ≤ 1
      ∧ ∀ g ∈ pre, OutFrame.isImage g = false
  sent      : s.link = .waitAck ∨ s.link = .acked → s.transmit = []
  unsent    : s.link = .idle → s.transmit.length ≤ (if s.cycle = .initial then 2 else 1)
      ∧ ∀ g ∈ s.transmit, OutFrame.isImage g = false
  waiting   : ∀ i, s.startUpWaiting = some i →
      i.kind = .startUp ∧ s.cycle = .initial ∧ s.inFlight = none ∧ s.profile?.isSome = true
  noProfile : s.profile? = none → s.cycle = .initial ∧ s.inFlight = none

/-! ### The image in flight and what is on air (R34, R111, R124, R128) -/

/-- The span descriptor of a span of the plan (R124). -/
def describe (x : Asked × Placed) : Descriptor :=
  { tenant := x.1.tenant, direction := x.1.direction, first := x.2.first, width := x.1.width, density := x.2.density,
    serviceCode := x.1.serviceCode, tag := x.1.tag }

/-- The descriptors of the on-air set, in order of entry index (R34). -/
def airSpans (s : State) : List Descriptor := allEntries.filterMap fun e => (s.life e).onAir?.map describe

/-- The span of an entry that is on air once the batch has been committed (R111). -/
def onAirNext? : Life → Option (Asked × Placed)
  | .live a q _ | .retiring a q _ | .adding a q _ _ _ => some (a, q)
  | .free | .pending _ _ _ | .staged _ _ | .dropping _ _ _ _ | .cooling _ _ _ => none

/-- In ARMED the image in flight is the batch image: the next epoch, the batch number, and the span list that the commit will
put on air, in ascending order of first granule (R111, R124). -/
def ImageOk (s : State) : Prop :=
  s.cycle = .armed → ∃ f : Flight, s.inFlight = some f ∧ f.image.kind = .batch ∧ f.image.epoch = s.epoch + 1
    ∧ f.image.batch = s.batch ∧ f.image.spans.Pairwise (fun x y => x.first ≤ y.first)
    ∧ f.image.spans.Perm (allEntries.filterMap fun e => (onAirNext? (s.life e)).map describe)

/-! ### Conduct (R148 to R153) -/

/-- A conduct record as R148 bounds it: at most 135, at 96 or more warned, isolated exactly from 128 on, and then warned;
a recovery countdown only while isolated. -/
structure RecordOk (c : ConductRecord) : Prop where
  bounded  : c.counter ≤ 135
  warned   : 96 ≤ c.counter → c.warned = true
  isolated : c.isolated = true ↔ 128 ≤ c.counter
  recovery : c.isolated = false → c.recovery = none

/-- Every conduct record is as R148 bounds it, and its recovery countdown is present while isolated, but in LATCHED. -/
structure ConductOk (s : State) : Prop where
  records   : ∀ t, RecordOk (s.record t)
  countdown : ∀ p, s.device = .running p → ∀ t, (s.record t).isolated = true →
    ((s.record t).recovery.isSome = true ↔ p.recoveryMode ≠ .latched)
  clean     : s.profile? = none → ∀ t, s.record t = resetConduct

/-- A life that an isolated tenant's entry may have: nothing in PENDING, STAGED or LIVE, ADDING with release mark and
forced, RETIRING and DROPPING forced (R42, R153). -/
def outOfPlan : Life → Bool
  | .free | .cooling _ _ _ => true
  | .pending _ _ _ | .staged _ _ | .live _ _ _ => false
  | .adding _ _ _ mark forced => mark && forced
  | .retiring _ _ forced | .dropping _ _ _ forced => forced

/-- An isolated tenant's entries are on their way out of the plan, and no answer of its is awaited (R42, R153). -/
structure IsolatedOut (s : State) : Prop where
  entries : ∀ t, (s.record t).isolated = true → ∀ e, (s.life e).tenant? = some t → outOfPlan (s.life e) = true
  answer  : ∀ t, (s.record t).isolated = true → t ∉ s.expected

/-! ### The bounds of the queues (R131, R134, R163) -/

/-- The log's sequence numbers are consecutive and end just below the log sequence (R131). -/
def logSequences (s : State) : Prop :=
  s.log.map Violation.seq = (List.range s.log.length).map fun i => s.logSeq - BitVec.ofNat 16 (s.log.length - i)

/-- A notice queue holds at most 16 notices, the log at most 16 records in consecutive sequence, the report queue at most
4 reports; a transfer that began while MREADY was asserted finds a place (R131, R134, R163). -/
structure QueuesOk (s : State) : Prop where
  notices  : ∀ t, (s.port t).queue.length ≤ Config.queueMax
  log      : s.log.length ≤ Config.logMax
  sequence : logSequences s
  reports  : s.reports.length ≤ Config.reportMax
  transfer : s.transfer = some true → s.reports.length < Config.reportMax
  idle     : s.profile? = none → s.reports = []
  inHand   : s.evaluating = true → s.reports ≠ []

end Sys2Proof.Safety
end

