-- ==== Sys2Proof/WellFormed.lean ====
section
/-! DEFINITION. Which commands are well formed: the operands say an event that can arrive as its row describes it. -/

namespace Sys2Proof

/-- Bytes that the Plan Link Interface discards (R177): a start byte with a type that is neither ACK nor NAK, or nine
bytes of an ACK or NAK whose CRC is not the one computed. -/
def discardedOnPlrx (bytes : List Byte) : Bool :=
  match bytes with
  | [s, ty] => s == Machine.startByte && ty != Machine.ackType && ty != Machine.nakType
  | [s, ty, e3, e2, e1, e0, send, c1, c0] =>
    s == Machine.startByte && (ty == Machine.ackType || ty == Machine.nakType)
      && Machine.crc16 [ty, e3, e2, e1, e0, send] != Machine.join16 c1 c0
  | _ => false

/-- A frame event's order names no expiry twice, and none both before and after the freeze or commit test. -/
def FrameOrder.ok (o : FrameOrder) : Bool := decide (o.early ++ o.late).Nodup

/-- The well-formedness check. A frame in a MALFORMED_FRAME fails the test of R168; a FETCH has a kind byte (R175); a
discarded PLRX frame is one R177 discards; a frame event's order is consistent. Every other operand is well formed by
its type: a value outside its range is a request's BAD_FIELD or a report's discard, which the meanings give. -/
def Instr.WellFormed : Instr → Bool
  | .malformedFrame _ bytes => (Machine.passingKind bytes).isNone
  | .fetch _ count => decide (1 ≤ count)
  | .plrxFrameDiscard bytes => discardedOnPlrx bytes
  | .framePulse _ o => o.ok
  | .internalFrameCountdown _ o => o.ok
  | .deviceReset | .rstRelease | .reload | .loadComplete _ | .cadenceExpiry | .prepareTimeout | .settleEnd
  | .holdExpiry _ | .lapse _ | .paceExpiry _ | .ackWaitExpiry | .recoveryCountdownExpiry _
  | .requestAccepted _ _ | .arbiterGrant | .place | .release | .withdraw | .querySpan | .queryMap | .ready | .refuse
  | .sweepStep | .status _ | .mode _ _ | .trigger _ | .readLog _ _ _ | .recover _ | .readNotice _
  | .setNoticeMask _ _ | .portReset _ | .portResetRelease _ | .imageSendEnd | .transmitFrameDone | .ack _ _
  | .nak _ _ | .measurementReport _ _ | .reportEvaluationBegin | .reportEvaluation | .chipSelectAsserted _
  | .reportTransferBegin => true

end Sys2Proof
end

