-- ==== Sys2Proof/Certificates/Slice0/Obligations.lean ====
section
/-! DEFINITION. The statements about the JBC-412 for the provers. Each docstring names the rules it rests on, and says so
where a clause is the model's own choice. -/

open Sys2Proof Sys2Proof.Machine Sys2Proof.Safety

/-! ### The step and the queue of commands -/

/-- A step runs the command at the front of the queue on the state with the queue's rest; on an empty queue nothing
changes. The queue and the idling are the model's own choice: log entry 1. -/
def Obligations.StepRunsFrontCommand : Prop :=
  (∀ (c : Instr) (rest : List Instr) (s : State), s.pending = c :: rest →
    step s = exec c { s with pending := rest })
  ∧ ∀ s : State, s.pending = [] → step s = .next s

/-- Every command has a next state in every state, and leaves the queue as it is: no event stops the part (R17 to R24 give every
event an effect or none). While the device is RUNNING, whatever command comes next finds the last frame event over: its
expiries are taken first, as one frame event takes them (R93). That events impossible in a state change nothing is the model's
choice, log entry 6; the arrangement of a frame event is another, log entry 2. -/
def Obligations.EveryCommandCompletes : Prop :=
  (∀ (c : Instr) (s : State), ∃ t, exec c s = .next t ∧ t.pending = s.pending)
  ∧ ∀ (s : State) (p : Profile), s.device = .running p →
    Settled (settleDue s)
    ∧ ∀ c : Instr, isExpiry c = false → c ≠ .deviceReset → exec c s = exec c (settleDue s)

/-! ### Resets and loading -/

/-- What a device reset leaves (the Device reset columns of R25, R47, R51, R92, R119, R130, R147, R160 and R174): the part is
STARTING with no load in progress, and holds nothing. That the level of TnPRST_n stands at every port (prst, the last clause)
is no line of those columns but the model's choice, log entry 18. -/
def Obligations.DeviceResetLeaves : Prop :=
  ∀ s : State, ∃ t, exec .deviceReset s = .next t
    ∧ t.device = .starting none ∧ t.loadFault? = none ∧ t.staged = [] ∧ t.frameCounter = 0 ∧ t.internalCountdown = none
    ∧ (∀ e, t.entry e = ⟨0, .free⟩) ∧ (∀ d, t.load.get d = 0) ∧ (∀ (u : Tenant) d, t.held[u].get d = 0)
    ∧ (∀ u : Tenant, t.entryCount[u] = 0)
    ∧ t.inHand = none ∧ t.arbiter = .port 0 ∧ (∀ u : Tenant, t.pace[u] = 0) ∧ t.waitList = [] ∧ t.sweep = .idle
    ∧ t.cycle = .initial ∧ t.trigger = false ∧ t.batch = 0 ∧ t.epoch = 0 ∧ t.expected = [] ∧ t.called = []
    ∧ t.prepareLeft = none ∧ t.settleLeft = none ∧ t.changed = []
    ∧ t.link = .idle ∧ t.inFlight = none ∧ t.sendNumber = 0 ∧ t.ackWait = none ∧ t.transmit = []
    ∧ t.reports = [] ∧ t.evaluating = false ∧ t.log = [] ∧ t.logSeq = 0 ∧ t.mready = false
    ∧ (∀ u, t.record u = { counter := 0, warned := false, isolated := false, recovery := none })
    ∧ (∀ u, (t.port u).mode = .offline ∧ (t.port u).request = none ∧ (t.port u).response = none ∧ (t.port u).queue = []
        ∧ (∀ k < 11, (t.port u).mask.getLsbD k = true) ∧ (t.port u).missed = 0 ∧ (t.port u).collided = false
        ∧ (t.port u).malformed = false ∧ (t.port u).underWay = none ∧ t.attn u = false
        ∧ (t.port u).prst = (s.port u).prst)

/-- A load begins (R18). At the release of RST_n only the loader moves (the device reset has done the rest). A LOAD_n pulse
is ignored while RST_n is asserted (R17); otherwise every block takes its Reload column (R25, R47, R51, R92, R119, R130,
R147, R160, R174): generations, batch, epoch and send numbers, frame counter and frames under way stand; an image in flight
is followed by CANCEL. That the cadence countdown stands until the next successful load loads it (R119 gives it no value between)
is the model's choice, log entry 20, and that a report transfer under way stands is log entry 25. -/
def Obligations.LoadBegins : Prop :=
  (∀ s : State, Settled s → s.device = .starting none →
    exec .rstRelease s = .next { s with device := .starting (some .afterDeviceReset), staged := [] })
  ∧ (∀ s : State, Settled s → s.device = .starting none → exec .reload s = .next s)
  ∧ ∀ s : State, Settled s → s.device ≠ .starting none → ∃ t, exec .reload s = .next t
    ∧ t = { s with
        device := .starting (some .afterReload), staged := [], internalCountdown := none
        table := t.table, load := ⟨0, 0⟩, held := t.held, entryCount := t.entryCount
        inHand := none, arbiter := .port 0, pace := t.pace, waitList := [], sweep := .idle
        cycle := .initial, trigger := false, expected := [], called := []
        prepareLeft := none, settleLeft := none, changed := []
        link := .idle, inFlight := none, ackWait := none, transmit := t.transmit, startUpWaiting := none
        reports := [], evaluating := false, log := [], logSeq := 0, conduct := t.conduct, ports := t.ports }
    ∧ (∀ e, t.entry e = { s.entry e with life := .free })
    ∧ (∀ (u : Tenant) d, t.held[u].get d = 0) ∧ (∀ u : Tenant, t.entryCount[u] = 0 ∧ t.pace[u] = 0)
    ∧ t.transmit = (s.transmit.filter fun g => !OutFrame.isImage g)
        ++ (s.inFlight.map fun f => OutFrame.cancel f.image.epoch f.send).toList
    ∧ (∀ u, t.record u = { counter := 0, warned := false, isolated := false, recovery := none })
    ∧ ∀ u, t.port u = { s.port u with mode := .offline, request := none, response := none, queue := [], mask := 0x7FF#11,
                                      missed := 0, collided := false, malformed := false }

/-- A load completes (R19, R20, R22, R23). When every check passes, the staged image becomes the profile, the device is
RUNNING, the countdowns are loaded (R14, R96), and the start-up image is handed to the link at once when the transmit order
is empty, else it waits (R94, R129). When a check fails, the device is FAULT with the reason. A blank or absent memory, of
any size, ends in FAULT with LENGTH. -/
def Obligations.LoadCompletes : Prop :=
  (∀ (s : State) (kind : LoadKind) (memory : List Byte) (p : Profile), Settled s → s.device = .starting (some kind) →
    checkImage (s.staged ++ readImage memory) = .ok p →
    let image : PlanImage :=
      { epoch := match kind with | .afterDeviceReset => 0 | .afterReload => s.epoch + 1
        kind := .startUp, batch := s.batch, spans := [] }
    let t : State := { s with
      device := .running p, staged := []
      internalCountdown := if p.frameSource = .internal then some p.framePeriod else none
      cadence := p.cadenceFrames }
    exec (.loadComplete memory) s = .next
      (if s.transmit = [] then
        { t with startUpWaiting := none, sendNumber := s.sendNumber + 1, inFlight := some ⟨image, s.sendNumber + 1⟩,
                 transmit := [.image ⟨image, s.sendNumber + 1⟩], link := .sending, ackWait := none }
       else { t with startUpWaiting := some image }))
  ∧ (∀ (s : State) (kind : LoadKind) (memory : List Byte) (r : LoadFault), Settled s → s.device = .starting (some kind) →
    checkImage (s.staged ++ readImage memory) = .error r →
    exec (.loadComplete memory) s = .next { s with device := .fault r, staged := [] })
  ∧ ∀ (s : State) (kind : LoadKind) (n : Nat), Settled s → s.device = .starting (some kind) → s.staged = [] →
    exec (.loadComplete (List.replicate n 0xFF)) s = .next { s with device := .fault .length }

/-- A profile that a load has made the plant profile is a legal one: every field in its range and every relation of R20
satisfied (R2, R3, R6 to R11, R20, R21). -/
def Obligations.LoadedProfileIsLegal : Prop :=
  ∀ (image : List Byte) (p : Profile), checkImage image = .ok p → LegalProfile p

/-! ### Tenant ports -/

/-- A notice is disposed of by the first line of R162's table that applies: dropped while TnPRST_n is asserted; dropped in
OFFLINE unless ISOLATED or RECOVERED; counted as missed when its kind is disabled or the queue holds 16 notices; otherwise
appended with the frame counter (R161). -/
def Obligations.NoticeIsDisposedOf : Prop :=
  ∀ (s : State) (t : Tenant) (body : NoticeBody),
    let p := s.port t
    let kind := body.kindCode
    let conductKind := kind = 10 ∨ kind = 11
    (p.prst = true → issue t body s = s)
    ∧ (p.prst = false → p.mode = .offline → ¬ conductKind → issue t body s = s)
    ∧ (p.prst = false → (p.mode ≠ .offline ∨ conductKind) →
        (p.mask.getLsbD (kind - 1) = false ∨ p.queue.length ≥ 16) →
        issue t body s = s.setPort t { p with missed := p.missed ||| (1#11 <<< (kind - 1)) })
    ∧ (p.prst = false → (p.mode ≠ .offline ∨ conductKind) → p.mask.getLsbD (kind - 1) = true → p.queue.length < 16 →
        issue t body s = s.setPort t { p with queue := p.queue ++ [⟨s.frameCounter, body⟩] })

/-- STATUS is answered in every device state, in every port mode and to an isolated tenant, with the values as they stand;
then the missed, collided and malformed flags are cleared (R154, R165, R171). -/
def Obligations.StatusAnswers : Prop :=
  ∀ (s : State) (t : Tenant), Accepting s t →
    let p := s.port t
    let c := s.record t
    exec (.status t) s = .next (s.setPort t
      { answered .status .ok
          (.status { device := s.deviceState, fault := s.loadFault?, frameCounter := s.frameCounter, mode := p.mode,
                     cycle := s.cycle, batch := s.batch, epoch := s.epoch, conduct := c, mask := p.mask,
                     noticeCount := p.queue.length, missed := p.missed, collided := p.collided,
                     malformed := p.malformed }) 1 p with
        missed := 0, collided := false, malformed := false })

/-- MODE, by the present mode and the target (R166); a move out of ACTIVE or PAUSED to CONFIG or OFFLINE sets the mode, then
purges the tenant, then answers (R167). Nothing but the port changes otherwise, save that PAUSED to ACTIVE requests a
sweep. -/
def Obligations.ModeChanges : Prop :=
  ∀ (s : State) (p : Profile) (t : Tenant), Accepting s t → s.device = .running p → (s.record t).isolated = false →
    let port := s.port t
    let ends (code : ResponseCode) (m : PortMode) : State := s.setPort t { answered .mode code .empty 2 port with mode := m }
    (∀ b : Byte, 3 < b.toNat → exec (.mode t b) s = .next (ends .badField port.mode))
    ∧ (port.mode = .offline →
        exec (.mode t 0) s = .next (ends .ok .offline)
        ∧ ((p.tenant t).enabled = true → exec (.mode t 1) s = .next (ends .ok .config))
        ∧ ((p.tenant t).enabled = false → exec (.mode t 1) s = .next (ends .disabled .offline))
        ∧ exec (.mode t 2) s = .next (ends .notAllowed .offline)
        ∧ exec (.mode t 3) s = .next (ends .notAllowed .offline))
    ∧ (port.mode = .config →
        exec (.mode t 0) s = .next (ends .ok .offline)
        ∧ exec (.mode t 1) s = .next (ends .ok .config)
        ∧ exec (.mode t 2) s = .next (ends .ok .active)
        ∧ exec (.mode t 3) s = .next (ends .notAllowed .config))
    ∧ (port.mode = .active →
        exec (.mode t 2) s = .next (ends .ok .active)
        ∧ exec (.mode t 3) s = .next (ends .ok .paused))
    ∧ (port.mode = .paused →
        exec (.mode t 2) s = .next (requestSweep (ends .ok .active))
        ∧ exec (.mode t 3) s = .next (ends .ok .paused))
    ∧ (port.mode = .active ∨ port.mode = .paused → ∀ (b : Byte) (m : PortMode), (b = 0 ∧ m = .offline ∨ b = 1 ∧ m = .config) →
        exec (.mode t b) s = .next (respond t .mode (.ok, .empty) (purge t (setMode t m (accept t 2 s)))))

/-- TRIGGER sets the trigger flag and is answered OK when the tenant's record has may-trigger and the source is DEMAND or
BOTH, whatever the cycle state; otherwise it is answered NO_TRIGGER. Nothing else changes (R97). -/
def Obligations.TriggerCalls : Prop :=
  ∀ (s : State) (p : Profile) (t : Tenant), Taking s p t .trigger →
    ((p.tenant t).mayTrigger = true ∧ (p.triggerSource = .demand ∨ p.triggerSource = .both) →
      exec (.trigger t) s = .next { s.setPort t (answered .trigger .ok .empty 1 (s.port t)) with trigger := true })
    ∧ (¬ ((p.tenant t).mayTrigger = true ∧ (p.triggerSource = .demand ∨ p.triggerSource = .both)) →
      exec (.trigger t) s = .next (s.setPort t (answered .trigger .noTrigger .empty 1 (s.port t))))

/-- READ_LOG (R146), in CONFIG, ACTIVE and PAUSED and to an isolated tenant in every mode: BAD_FIELD for a limit outside
1..8; no records when `from` is the next sequence; from the record of that sequence on when the log holds it; otherwise the
oldest records with lost. It changes nothing but the port. -/
def Obligations.LogIsRead : Prop :=
  ∀ (s : State) (p : Profile) (t : Tenant) (start : BitVec 16) (limit : Byte), Accepting s t → s.device = .running p →
    (s.record t).isolated = true ∨ (s.port t).mode ≠ .offline →
    let ends (code : ResponseCode) (body : ResponseBody) : Host.Outcome State Fault Refusal :=
      .next (s.setPort t (answered .readLog code body 4 (s.port t)))
    let log (lost : Bool) (records : List Violation) : ResponseBody :=
      .log s.logSeq s.log.length lost (records.take limit.toNat)
    (limit.toNat = 0 ∨ 8 < limit.toNat → exec (.readLog t start limit) s = ends .badField .empty)
    ∧ (1 ≤ limit.toNat → limit.toNat ≤ 8 →
        (start = s.logSeq → exec (.readLog t start limit) s = ends .ok (log false []))
        ∧ (start ≠ s.logSeq → ∀ (older : List Violation) (v : Violation) (newer : List Violation),
            s.log = older ++ v :: newer → v.seq = start → (∀ u ∈ older, u.seq ≠ start) →
            exec (.readLog t start limit) s = ends .ok (log false (v :: newer)))
        ∧ (start ≠ s.logSeq → (∀ v ∈ s.log, v.seq ≠ start) →
            exec (.readLog t start limit) s = ends .ok (log true s.log)))

/-- RECOVER (R157), and what recovery does (R158): counter 0, warned and isolated clear, no countdown, the port in CONFIG, a
RECOVERED notice, and nothing else. -/
def Obligations.RecoverAnswers : Prop :=
  ∀ (s : State) (p : Profile) (t : Tenant), Accepting s t → s.device = .running p →
    let port := s.port t
    let refuses (code : ResponseCode) : Prop :=
      exec (.recover t) s = .next (s.setPort t (answered .recover code .empty 1 port))
    ((s.record t).isolated = false → refuses .notAllowed)
    ∧ ((s.record t).isolated = true →
        (p.recoveryMode = .auto → refuses .tooEarly)
        ∧ (p.recoveryMode = .latched → refuses .latched)
        ∧ (p.recoveryMode = .onRequest → (s.record t).recovery ≠ some 0 → refuses .tooEarly)
        ∧ (p.recoveryMode = .onRequest → (s.record t).recovery = some 0 →
            exec (.recover t) s = .next
              (issue t (.recovered .onRequest .request .config)
                ((s.setRecord t { counter := 0, warned := false, isolated := false, recovery := none }).setPort t
                  { answered .recover .ok .empty 1 port with mode := .config }))))

/-- READ_NOTICE returns and removes the oldest notice with the number that remain, or answers EMPTY (R163);
SET_NOTICE_MASK replaces the mask by the request's bits 0..10 and leaves queue and missed flags (R164, R175). Nothing but
the port changes. -/
def Obligations.NoticesAreRead : Prop :=
  (∀ (s : State) (p : Profile) (t : Tenant), Accepting s t → s.device = .running p →
    (s.record t).isolated = true ∨ (s.port t).mode ≠ .offline →
    ((s.port t).queue = [] →
      exec (.readNotice t) s = .next (s.setPort t (answered .readNotice .empty .empty 1 (s.port t))))
    ∧ ∀ (n : Notice) (rest : List Notice), (s.port t).queue = n :: rest →
      exec (.readNotice t) s = .next (s.setPort t
        { answered .readNotice .ok (.notice rest.length n) 1 (s.port t) with queue := rest }))
  ∧ ∀ (s : State) (p : Profile) (t : Tenant) (mask : BitVec 16), Taking s p t .setNoticeMask →
    ∃ m : BitVec 11, (∀ k < 11, m.getLsbD k = mask.getLsbD k)
      ∧ exec (.setNoticeMask t mask) s = .next (s.setPort t
          { answered .setNoticeMask .ok .empty 3 (s.port t) with mask := m })

/-- As chip select is asserted the port takes its status header and whether a response follows; a FETCH of n bytes then
sends 0x00, the header and the response, and 0x00 after them, and empties the response slot exactly when it carried the
response whole (R170, R176). Nothing but the port changes. That a beginning takes the place of a frame already under way is the
model's choice, log entry 28. -/
def Obligations.FetchSends : Prop :=
  (∀ (s : State) (t : Tenant), Settled s → s.inert t = false →
    exec (.chipSelectAsserted t) s = .next (s.setPort t
      { s.port t with underWay := some { mode := (s.port t).mode, busy := (s.port t).request.isSome,
                                         noticeCount := (s.port t).queue.length, carried := (s.port t).response } }))
  ∧ ∀ (s : State) (t : Tenant) (f : FrameUnderWay) (n : Nat), Settled s → s.inert t = false → 1 ≤ n →
    (s.port t).underWay = some f →
    ∃ out : List Byte, out.length = n
      ∧ (∀ i, i < n → out[i]? = some
          (if i = 0 then 0
           else if i = 1 then f.mode.code
           else if i = 2 then BitVec.ofNat 8 ((if f.busy then 1 else 0) + (if f.carried.isSome then 2 else 0))
           else if i = 3 then BitVec.ofNat 8 f.noticeCount
           else ((f.carried.map Response.bytes).getD []).getD (i - 4) 0))
      ∧ exec (.fetch t n) s = .next (s.setPort t
          { s.port t with
            underWay := none, sdo := out
            response := match f.carried with
              | none => (s.port t).response
              | some r => if 8 + r.body.bytes.length ≤ n then none else (s.port t).response })

/-- What arrives at a port (R168, R169, R175). A frame that fails the test of kind and length sets the malformed flag and
leaves slots and collided flag; its outgoing bytes are 0x00 when the kind byte names a request, which is the model's inference,
log entry 22, and otherwise the free values of log entry 5, of which nothing is claimed. A request for the Plan Engine is
accepted into an empty slot, an unfetched response being discarded; while the slot is occupied a request frame of every kind is
discarded with the collided flag set, in every device state and mode, and nothing else changes but the end of the frame. -/
def Obligations.FramesArrive : Prop :=
  (∀ (s : State) (t : Tenant) (bytes : List Byte), Settled s → s.inert t = false → passingKind bytes = none →
    ∃ (out : List Byte) (used : Nat), out.length = bytes.length
      ∧ ((bytes.head?.bind kindOfByte).isSome = true → used = 0 ∧ ∀ b ∈ out, b = 0)
      ∧ exec (.malformedFrame t bytes) s = .next
          { s.setPort t { s.port t with malformed := true, underWay := none, sdo := out } with
            freeCount := s.freeCount + used })
  ∧ (∀ (s : State) (p : Profile) (t : Tenant) (r : EngineRequest), Accepting s t → s.device = .running p →
    ∃ n, exec (.requestAccepted t r) s = .next (s.setPort t
      { s.port t with request := some r, response := none, underWay := none, sdo := List.replicate n 0 }))
  ∧ ∀ (s : State) (t : Tenant) (r' : EngineRequest), Settled s → s.inert t = false → (s.port t).request = some r' →
    let collides (c : Instr) (n : Nat) : Prop := exec c s = .next (s.setPort t
      { s.port t with collided := true, underWay := none, sdo := List.replicate n 0 })
    (∀ r, ∃ n, (requestKind r).length = some n ∧ collides (.requestAccepted t r) n)
    ∧ collides (.status t) 1 ∧ (∀ b, collides (.mode t b) 2) ∧ collides (.trigger t) 1
    ∧ (∀ start limit, collides (.readLog t start limit) 4) ∧ collides (.recover t) 1 ∧ collides (.readNotice t) 1
    ∧ ∀ m, collides (.setNoticeMask t m) 3

/-- A port reset (R51, R172, R173): OFFLINE, slots, queue and flags empty, every kind enabled, a frame under way cut off, the
evaluation in hand for this port discarded with the arbiter position left, and the purge of the tenant when the port was
ACTIVE or PAUSED; a release makes the port take frames again. -/
def Obligations.PortResetLeaves : Prop :=
  (∀ (s : State) (t : Tenant), Settled s →
    let after (u : State) : State :=
      { u.setPort t { mode := .offline, request := none, response := none, queue := [], mask := 0x7FF#11, missed := 0,
                      collided := false, malformed := false, prst := true, underWay := none, sdo := (s.port t).sdo } with
        inHand := if s.inHand = some (.port t) then none else s.inHand }
    ((s.port t).mode = .offline ∨ (s.port t).mode = .config → exec (.portReset t) s = .next (after s))
    ∧ ((s.port t).mode = .active ∨ (s.port t).mode = .paused →
        exec (.portReset t) s = .next (after (purge t (s.setPort t { s.port t with mode := .offline })))))
  ∧ ∀ (s : State) (t : Tenant), Settled s → (s.port t).prst = true →
    exec (.portResetRelease t) s = .next (s.setPort t
      { s.port t with mode := .offline, request := none, response := none, queue := [], prst := false })

/-- What the three checks at the port refuse (R24, R53, R104, R154, R165). Outside RUNNING every request but STATUS is answered
NOT_RUNNING at its acceptance. An isolated tenant's MODE, TRIGGER and SET_NOTICE_MASK, and each request in the Plan Engine at
its completion, are answered ISOLATED, whatever the port's mode. For a tenant that is not isolated the port's mode as it stands
when the request is taken decides: a PLACE in PAUSED is answered PAUSED, and every other request that the mode does not allow
NOT_ALLOWED. Nothing but the port, and the end of the evaluation, changes. -/
def Obligations.RefusedOutright : Prop :=
  (∀ (s : State) (t : Tenant), Accepting s t → s.deviceState ≠ .running →
    let refused (c : Instr) (k : FrameKind) : Prop :=
      ∃ n, exec c s = .next (s.setPort t (answered k .notRunning .empty n (s.port t)))
    (∀ b, refused (.mode t b) .mode) ∧ refused (.trigger t) .trigger ∧ (∀ x y, refused (.readLog t x y) .readLog)
    ∧ refused (.recover t) .recover ∧ refused (.readNotice t) .readNotice
    ∧ (∀ m, refused (.setNoticeMask t m) .setNoticeMask) ∧ ∀ r, refused (.requestAccepted t r) (requestKind r))
  ∧ (∀ (s : State) (p : Profile) (t : Tenant), Accepting s t → s.device = .running p → (s.record t).isolated = true →
    let refused (c : Instr) (k : FrameKind) : Prop :=
      ∃ n, exec c s = .next (s.setPort t (answered k .isolated .empty n (s.port t)))
    (∀ b, refused (.mode t b) .mode) ∧ refused (.trigger t) .trigger ∧ ∀ m, refused (.setNoticeMask t m) .setNoticeMask)
  ∧ (∀ (s : State) (p : Profile) (t : Tenant) (r : EngineRequest), InEngine s p t r → (s.record t).isolated = true →
    exec (completion r) s = .next { respond t (requestKind r) (.isolated, .empty) s with inHand := none })
  ∧ (∀ (s : State) (p : Profile) (t : Tenant), Accepting s t → s.device = .running p → (s.record t).isolated = false →
    let mode := (s.port t).mode
    let refused (c : Instr) (k : FrameKind) (n : Nat) : Prop :=
      exec c s = .next (s.setPort t (answered k .notAllowed .empty n (s.port t)))
    (mode = .offline → (∀ start limit, refused (.readLog t start limit) .readLog 4) ∧ refused (.readNotice t) .readNotice 1
      ∧ ∀ m, refused (.setNoticeMask t m) .setNoticeMask 3)
    ∧ (mode = .offline ∨ mode = .config → refused (.trigger t) .trigger 1 ∧ refused (.recover t) .recover 1))
  ∧ ∀ (s : State) (p : Profile) (t : Tenant) (r : EngineRequest), InEngine s p t r → (s.record t).isolated = false →
    let mode := (s.port t).mode
    let answers (code : ResponseCode) : Prop := exec (completion r) s = .next (concluded t (requestKind r) code .empty s)
    (∀ f, r = .place f → mode = .paused → answers .paused)
    ∧ (mode = .offline → answers .notAllowed)
    ∧ (mode = .config → (∀ lo count, r ≠ .queryMap lo count) → answers .notAllowed)

/-! ### The Span Table and the Plan Engine -/

/-- An entry that changes state keeps its generation, every other entry stands, and every running sum stays the sum over its
set (R29, R32, R33). Nothing but the table and its sums changes. -/
def Obligations.EntryMovesWithItsSums : Prop :=
  ∀ (s : State) (e : EntryIx) (l : Life), SumsMatch s →
    let u := setLife e l s
    u = { s with table := u.table, load := u.load, held := u.held, entryCount := u.entryCount }
    ∧ u.entry e = { s.entry e with life := l } ∧ (∀ x, x ≠ e → u.entry x = s.entry x) ∧ SumsMatch u

/-- The arbiter grants the engine to the first waiting requester found round the ring from its position, and moves to the one
that follows it; while the engine is BUSY, the device is not RUNNING or nothing waits, no grant is made (R48, R49, R82). -/
def Obligations.ArbiterGrantsRing : Prop :=
  ∀ (s : State), Settled s →
    let waits : Requester → Prop := fun r => match r with
      | .port t => (s.port t).request.isSome = true
      | .sweep => ∃ e again, s.sweep = .running (.entry e) again
    let way (r : Requester) : Nat := (ringPlace r + 5 - ringPlace s.arbiter) % 5
    (s.inHand ≠ none ∨ s.profile? = none ∨ (∀ r, ¬ waits r) → exec .arbiterGrant s = .next s)
    ∧ ∀ (p : Profile) (r : Requester), s.device = .running p → s.inHand = none → waits r →
        (∀ r', waits r' → way r ≤ way r') →
        ∃ following, ringPlace following = (ringPlace r + 1) % 5
          ∧ exec .arbiterGrant s = .next { s with inHand := some r, arbiter := following }

/-- Steps 2 to 5 of a PLACE, in order (R54 to R61): the field ranges, the direction's range, the first enabled rule that
matches, its effects, and the tenant's rights. -/
def Obligations.AdmissionDecides : Prop :=
  ∀ (p : Profile) (t : Tenant) (f : PlaceFields), (∀ r ∈ p.ruleBlock t, r.lo ≤ r.hi) →
    let inRange : Prop :=
      f.direction.toNat ≤ 1 ∧ f.placement.toNat ≤ 1 ∧ 1 ≤ f.width.toNat ∧ f.width.toNat ≤ 1200
      ∧ -8 ≤ f.density.toInt ∧ f.density.toInt ≤ 6 ∧ f.priority.toNat ≤ 7
      ∧ (f.placement = 0 → f.firstOrLo.toNat + f.width.toNat - 1 ≤ 1199)
      ∧ (f.placement = 1 → f.firstOrLo.toNat ≤ f.windowHi.toNat ∧ f.windowHi.toNat ≤ 1199)
    (¬ inRange → admission p t f = .error .badField)
    ∧ (inRange → ∃ q : PlaceAsk, placeAsk f = some q
        ∧ q.lo = f.firstOrLo.toNat ∧ q.width = f.width.toNat ∧ q.density = f.density.toInt
        ∧ q.priority = f.priority.toNat ∧ q.serviceCode = f.serviceCode ∧ q.nowait = f.nowait
        ∧ (q.direction = .up ↔ f.direction = 0) ∧ (q.placement = .exact ↔ f.placement = 0)
        ∧ (q.placement = .exact → q.hi = q.lo + q.width - 1) ∧ (q.placement = .flex → q.hi = f.windowHi.toNat)
        ∧ (q.hold = none ↔ f.hold = 0) ∧ (∀ n, q.hold = some n → n = f.hold.toNat)
        ∧ (q.waitLimit = none ↔ f.waitLimit = 0) ∧ (∀ n, q.waitLimit = some n → n = f.waitLimit.toNat))
    ∧ ∀ q : PlaceAsk, placeAsk f = some q →
      (¬ (p.inDirection q.direction q.lo q.hi = true ∧ q.width ≤ q.hi + 1 - q.lo) → admission p t f = .error .badSpan)
      ∧ (p.inDirection q.direction q.lo q.hi = true → q.width ≤ q.hi + 1 - q.lo →
        let decides (r : AdmissionRule) : Prop :=
          r.enabled = true ∧ (r.direction = none ∨ r.direction = some q.direction)
          ∧ q.serviceCode &&& r.codeMask = r.codeValue &&& r.codeMask
          ∧ (q.placement = .exact → r.lo ≤ q.lo ∧ q.hi ≤ r.hi)
          ∧ (q.placement = .flex → ∃ g, q.lo ≤ g ∧ g ≤ q.hi ∧ r.lo ≤ g ∧ g ≤ r.hi)
        ((∀ r ∈ p.ruleBlock t, ¬ decides r) → admission p t f = .error .noRule)
        ∧ ∀ (earlier : List AdmissionRule) (r : AdmissionRule) (later : List AdmissionRule),
          p.ruleBlock t = earlier ++ r :: later → (∀ x ∈ earlier, ¬ decides x) → decides r →
          (r.action = .deny → admission p t f = .error .denied)
          ∧ (r.action = .allow →
            let w := if 0 < r.fixedWidth then r.fixedWidth else q.width
            let lo := if q.placement = .exact then q.lo else max q.lo r.lo
            let hi := if q.placement = .exact then q.lo + w - 1 else min q.hi r.hi
            let rights (g : Nat) : Prop := p.accessAt t g = .request ∨ p.accessAt t g = .anchor
            (0 < r.minWidth ∧ q.width < r.minWidth → admission p t f = .error .short)
            ∧ (¬ (0 < r.minWidth ∧ q.width < r.minWidth) →
              let holds : Prop :=
                (q.placement = .exact → r.lo ≤ lo ∧ hi ≤ r.hi ∧ p.inDirection q.direction lo hi = true)
                ∧ (q.placement = .flex → w ≤ hi + 1 - lo)
              (¬ holds → admission p t f = .error .badSpan)
              ∧ (holds →
                let runOf (test : Nat → Prop) : Prop :=
                  ∃ g, lo ≤ g ∧ g + w ≤ hi + 1 ∧ ∀ x, g ≤ x → x < g + w → test x
                (¬ runOf rights → admission p t f = .error .noRight)
                ∧ (runOf rights → ¬ runOf (fun g => rights g ∧ p.openAt g = true) →
                    admission p t f = .error .closed)
                ∧ (runOf (fun g => rights g ∧ p.openAt g = true) →
                    ∃ a : Asked, admission p t f = .ok (q, a)
                      ∧ a.tenant = t ∧ a.direction = q.direction ∧ a.placement = q.placement ∧ a.windowLo = lo
                      ∧ a.windowHi = hi ∧ a.width = w ∧ a.density = q.density ∧ a.cap = r.cap
                      ∧ a.priority = r.priority.getD q.priority ∧ a.serviceCode = q.serviceCode ∧ a.tag = r.tag
                      ∧ a.hold = q.hold
                      ∧ (a.anchored = true ↔ ∀ g, lo ≤ g → g ≤ hi → p.accessAt t g = .anchor))))))

/-- A PLACE refused at steps 2 to 6 or at the outright quota test (R52, R62, R63, R74): the code alone is answered, and nothing
but the port and the end of the evaluation changes, save that the outright QUOTA refusal leaves the generation of the entry
it was given moved on (R28). -/
def Obligations.PlaceRefusals : Prop :=
  ∀ (s : State) (p : Profile) (t : Tenant) (f : PlaceFields), Evaluating s p t (.place f) →
    (∀ code, admission p t f = .error code → exec .place s = .next (concluded t .place code .empty s))
    ∧ ∀ (q : PlaceAsk) (a : Asked), admission p t f = .ok (q, a) →
      ((∀ e, s.life e ≠ .free) → exec .place s = .next (concluded t .place .tableFull .empty s))
      ∧ ((∃ e, s.life e = .free) → (p.tenant t).entryQuota ≤ s.entryCount[t] →
          exec .place s = .next (concluded t .place .entryQuota .empty s))
      ∧ ∀ e, Allocating s p t f q a e → (p.tenant t).quota a.direction < a.width →
          exec .place s = .next (concluded t .place .quota .empty
            { s with table := s.table.set e { s.entry e with generation := (s.entry e).generation + 1 } })

/-- A PLACE that passes every step (R28, R62, R64, R72): the FREE entry of lowest index becomes STAGED with its generation moved
on and joins its sets, the tenant's pace countdown is loaded, and GRANTED is answered. Nothing else changes. -/
def Obligations.PlaceGranted : Prop :=
  ∀ (s : State) (p : Profile) (t : Tenant) (f : PlaceFields) (q : PlaceAsk) (a : Asked) (e : EntryIx) (g : Nat),
    Allocating s p t f q a e → FitsAt p s a g →
    let b := placedSpan p a g
    let generation := (s.entry e).generation + 1
    ∃ u : State,
      exec .place s = .next (concluded t .place .granted
        (.granted { index := e, generation, direction := a.direction, first := g, width := a.width, density := b.density,
                    clamped := b.clamped, anchored := a.anchored, tag := a.tag }) u)
      ∧ u = { s with table := u.table, load := u.load, held := u.held, entryCount := u.entryCount, pace := u.pace }
      ∧ u.entry e = ⟨generation, .staged a b⟩ ∧ (∀ x, x ≠ e → u.entry x = s.entry x)
      ∧ (∀ d, u.load.get d = s.load.get d + if d = a.direction then b.load else 0)
      ∧ (∀ (v : Tenant) d, u.held[v].get d = s.held[v].get d + if v = t ∧ d = a.direction then a.width else 0)
      ∧ (∀ v : Tenant, u.entryCount[v] = s.entryCount[v] + if v = t then 1 else 0)
      ∧ ∀ v : Tenant, u.pace[v] = if v = t then (p.tenant t).paceFrames else s.pace[v]

/-- A PLACE that fails a fit check (R28, R73, R76, R78, R88, R91): with NOWAIT it is refused with the check's reason; with 64
entries waiting it is refused LIST_FULL; the entry returns to FREE in both with its generation moved on. Otherwise the
entry becomes PENDING with the reason and its wait limit, and joins the list behind the last entry of equal or better rank. -/
def Obligations.PlaceWaits : Prop :=
  ∀ (s : State) (p : Profile) (t : Tenant) (f : PlaceFields) (q : PlaceAsk) (a : Asked) (e : EntryIx) (r : PendingReason),
    Allocating s p t f q a e → a.width ≤ (p.tenant t).quota a.direction → FitFails p s a r →
    let generation := (s.entry e).generation + 1
    let bumped : State := { s with table := s.table.set e { s.entry e with generation } }
    let ahead (x : EntryIx) : Prop := ∃ b, (s.life x).asked? = some b ∧ rankOf p.rankMode b ≤ rankOf p.rankMode a
    (q.nowait = true → exec .place s = .next (concluded t .place
        (match r with | .room => .room | .load => .load | .quota => .quota | .pace => .pace) .empty bumped))
    ∧ (q.nowait = false → 64 ≤ s.waitList.length →
        exec .place s = .next (concluded t .place .listFull .empty bumped))
    ∧ (q.nowait = false → s.waitList.length < 64 →
        ∃ (u : State) (before after : List EntryIx),
          exec .place s = .next (concluded t .place .pending
            (.pending { index := e, generation, reason := r, lo := a.windowLo, hi := a.windowHi, width := a.width,
                        priority := a.priority, anchored := a.anchored, tag := a.tag }) u)
          ∧ u = { s with table := u.table, entryCount := u.entryCount, waitList := before ++ e :: after }
          ∧ u.entry e = ⟨generation, .pending a r q.waitLimit⟩ ∧ (∀ x, x ≠ e → u.entry x = s.entry x)
          ∧ (∀ v : Tenant, u.entryCount[v] = s.entryCount[v] + if v = t then 1 else 0)
          ∧ s.waitList = before ++ after ∧ (∀ x ∈ after, ¬ ahead x) ∧ ∀ x, before.getLast? = some x → ahead x)

/-- A PLACE that is neither granted nor left pending leaves no trace but the generation of an entry that it was given: no handle
in the response, no life, sum, list, countdown or other port changed (R28, R53, R74). -/
def Obligations.RefusedPlaceLeavesNoTrace : Prop :=
  ∀ (s : State) (p : Profile) (t : Tenant) (f : PlaceFields), InEngine s p t (.place f) →
    ∀ (v : State) (r : Response), exec .place s = .next v → (v.port t).response = some r →
    r.code ≠ .granted → r.code ≠ .pending →
    r.kind = 3 ∧ r.body = .empty
    ∧ (∃ u : State, v = concluded t .place r.code .empty u ∧ u = { s with table := u.table }
      ∧ (∀ e, u.life e = s.life e)
      ∧ ∀ e, (u.entry e).generation = (s.entry e).generation
          ∨ s.life e = .free ∧ (u.entry e).generation = (s.entry e).generation + 1)

/-- What a candidate is (R66) and which one the placement is (R67): for EXACT the span's own first granule, for FLEX the lowest
candidate of the window. -/
def Obligations.PlacementIsLowestCandidate : Prop :=
  ∀ (p : Profile) (s : State) (a : Asked), 1 ≤ a.width →
    (∀ e b q, (s.life e).occupies? = some (b, q) → 1 ≤ b.width) →
    (∀ g, candidate p s a g = true ↔
      a.windowLo ≤ g ∧ g + a.width ≤ a.windowHi + 1
      ∧ (∀ x, g ≤ x → x < g + a.width → p.permitted a.tenant x = true)
      ∧ ∀ e b q, (s.life e).occupies? = some (b, q) → ∀ x y, g ≤ x → x < g + a.width → q.first ≤ y →
          y < q.first + b.width →
          x ≠ y ∧ (b.tenant ≠ a.tenant → b.direction = a.direction →
            let guard := p.guards.get (p.tenant a.tenant).cls (p.tenant b.tenant).cls
            (x < y → guard ≤ y - x - 1) ∧ (y < x → guard ≤ x - y - 1)))
    ∧ (a.placement = .exact →
        placement p s a = if candidate p s a a.windowLo = true then some a.windowLo else none)
    ∧ (a.placement = .flex →
        (∀ g, placement p s a = some g ↔ candidate p s a g = true ∧ ∀ x, x < g → candidate p s a x = false)
        ∧ (placement p s a = none ↔ ∀ g, candidate p s a g = false))

/-- Under a legal profile: the density limit of each direction (R68), the granted density (R69), the weight of a density as
1,024 × 10^(d/10) rounded to the nearest whole number, and the load of a span (R70). -/
def Obligations.DensityAndLoad : Prop :=
  ∀ p : Profile, LegalProfile p →
    (∀ g, densityLimit p .up g = p.usLim)
    ∧ (∀ g, p.dsLo ≤ g → g ≤ 1199 →
        densityLimit p .down g = min 6 (p.dsBaseLim + (p.tiltSpan : Int) * ((g : Int) - p.dsLo) / (1199 - (p.dsLo : Int)))
        ∧ -8 ≤ densityLimit p .down g
        ∧ ∀ g', g ≤ g' → g' ≤ 1199 → densityLimit p .down g ≤ densityLimit p .down g')
    ∧ (∀ (a : Asked) (g : Nat),
        let d := grantedDensity p a g
        d ≤ a.density ∧ d ≤ densityLimit p a.direction g ∧ (∀ c, a.cap = some c → d ≤ c)
        ∧ (d = a.density ∨ d = densityLimit p a.direction g ∨ a.cap = some d)
        ∧ (placedAt p a g).density = d ∧ (placedAt p a g).first = g
        ∧ ((placedAt p a g).clamped = true ↔ d < a.density)
        ∧ (placedAt p a g).load = a.width * weight d)
    ∧ ∀ d : Int, -8 ≤ d → d ≤ 6 →
        let n := (d + 8).toNat
        (2 * weight d - 1) ^ 10 * 10 ^ 8 ≤ 2048 ^ 10 * 10 ^ n ∧ 2048 ^ 10 * 10 ^ n < (2 * weight d + 1) ^ 10 * 10 ^ 8

/-- RELEASE, by the entry's state (R27, R37 to R40). A staged span is freed; a live one is to be dropped; in ARMED an addition
is marked; in PREPARING it leaves the batch, and the tenant leaves the expected set when it then owes no answer, whereupon
the cycle proceeds if none is left to answer (`proceed`, see ExpectedSetEmpties). `setLife` and `requestSweep` are
EntryMovesWithItsSums and ListAndSweepRequests. -/
def Obligations.ReleaseAnswers : Prop :=
  ∀ (s : State) (p : Profile) (t : Tenant) (h : Handle), Evaluating s p t (.release h) →
    let answers (code : ResponseCode) (u : State) : Prop := exec .release s = .next (concluded t .release code .empty u)
    ((∀ e, ¬ Names s t h e) → answers .gone s)
    ∧ ∀ e, Names s t h e →
      (∀ a r w, s.life e = .pending a r w → answers .notPlaced s)
      ∧ (∀ a q, s.life e = .staged a q → answers .ok (requestSweep (setLife e .free s)))
      ∧ (∀ a q left, s.life e = .live a q left → answers .ok (setLife e (.retiring a q false) s))
      ∧ (∀ a q forced, s.life e = .retiring a q forced → answers .alreadyRetiring s)
      ∧ (∀ a q b forced, s.life e = .dropping a q b forced → answers .alreadyRetiring s)
      ∧ (∀ a q b forced, s.life e = .adding a q b true forced → answers .alreadyRetiring s)
      ∧ (∀ a q b forced, s.life e = .adding a q b false forced →
          (s.cycle = .armed → answers .ok (setLife e (.adding a q b true forced) s))
          ∧ (s.cycle = .preparing →
              let u := requestSweep (setLife e .free s)
              let owes : Prop := ∃ x, x ≠ e ∧ (s.life x).tenant? = some t
                ∧ ((∃ a q b m f, s.life x = .adding a q b m f) ∨ ∃ a q b, s.life x = .dropping a q b false)
              (t ∉ s.expected ∨ owes → answers .ok u)
              ∧ (t ∈ s.expected → ¬ owes → answers .ok (proceed { u with expected := s.expected.filter (· ≠ t) }))))

/-- WITHDRAW takes a waiting request off the list and frees its entry, and is answered NOT_PENDING for a placed one (R86).
QUERY_SPAN reports the entry as it stands and changes nothing but the port (R45); the one bit that R176 gives a PENDING
entry no value for is the free value of log entry 4, of which nothing is claimed. A handle that is not valid is answered
GONE (R27). -/
def Obligations.WithdrawAndQuerySpan : Prop :=
  (∀ (s : State) (p : Profile) (t : Tenant) (h : Handle), Evaluating s p t (.withdraw h) →
    let answers (code : ResponseCode) (u : State) : Prop := exec .withdraw s = .next (concluded t .withdraw code .empty u)
    ((∀ e, ¬ Names s t h e) → answers .gone s)
    ∧ ∀ e, Names s t h e →
      ((∃ a r w, s.life e = .pending a r w) → answers .ok (setLife e .free (leaveList e s)))
      ∧ ((∀ a r w, s.life e ≠ .pending a r w) → answers .notPending s))
  ∧ ∀ (s : State) (p : Profile) (t : Tenant) (h : Handle), Evaluating s p t (.querySpan h) →
    ((∀ e, ¬ Names s t h e) → exec .querySpan s = .next (concluded t .querySpan .gone .empty s))
    ∧ ∀ e, Names s t h e → ∃ (bit : Bool) (n : Nat),
        exec .querySpan s = .next (concluded t .querySpan .ok (.span e (s.entry e) bit) { s with freeCount := n })

/-- QUERY_MAP (R46): BAD_FIELD for a count outside 1..64 or a run past 1199; otherwise one value for each granule, by the first
line of R46's table that applies to it for the asking tenant. Nothing but the port changes. -/
def Obligations.QueryMapAnswers : Prop :=
  ∀ (s : State) (p : Profile) (t : Tenant) (lo : BitVec 16) (count : Byte), Evaluating s p t (.queryMap lo count) →
    let inRange : Prop := 1 ≤ count.toNat ∧ count.toNat ≤ 64 ∧ lo.toNat + count.toNat - 1 ≤ 1199
    let lies (l : Life) (g : Nat) : Prop :=
      ∃ a q, l.occupies? = some (a, q) ∧ q.first ≤ g ∧ g < q.first + a.width
    (¬ inRange → exec .queryMap s = .next (concluded t .queryMap .badField .empty s))
    ∧ (inRange → ∃ values : List MapValue,
        exec .queryMap s = .next (concluded t .queryMap .ok (.map values) s) ∧ values.length = count.toNat
        ∧ ∀ k v, values[k]? = some v →
          let g := lo.toNat + k
          let closed : Prop := p.openAt g = false
          let hidden : Prop := p.accessAt t g = .none
          let cooling : Prop := ∃ e a q f, s.life e = .cooling a q f ∧ lies (s.life e) g
          let own : Prop := ∃ e, lies (s.life e) g ∧ (s.life e).tenant? = some t
          let taken : Prop := ∃ e, lies (s.life e) g
          (hidden → v = .hidden)
          ∧ (¬ hidden → cooling → v = .cooling)
          ∧ (¬ hidden → ¬ cooling → own → v = .own)
          ∧ (¬ hidden → ¬ cooling → ¬ own → taken → v = .taken)
          ∧ (¬ hidden → ¬ taken → closed → v = .closed)
          ∧ (¬ hidden → ¬ taken → ¬ closed → v = .free))

/-- READY and REFUSE (R104 to R106): STALE outside PREPARING or for another batch, NOT_AFFECTED for a tenant that owes no answer.
READY takes the tenant out of the expected set and brings the credit. REFUSE returns the tenant's additions to STAGED and
its unforced drops to RETIRING, takes it out of the expected set and brings the refusal charge. Then the cycle proceeds
(`proceed`, see ExpectedSetEmpties), and a tenant that the charge isolated is purged (R152). That a charge's own notice comes
before what the cycle issues is the model's inference, log entry 9. -/
def Obligations.BatchIsAnswered : Prop :=
  (∀ (s : State) (p : Profile) (t : Tenant) (b : BitVec 16) (yes : Bool),
    Evaluating s p t (if yes then .ready b else .refuse b) →
    let k : FrameKind := if yes then .ready else .refuse
    let answers (code : ResponseCode) (u : State) : Prop :=
      exec (if yes then .ready else .refuse) s = .next (concluded t k code .empty u)
    (s.cycle ≠ .preparing ∨ b ≠ s.batch → answers .stale s)
    ∧ (s.cycle = .preparing → b = s.batch → t ∉ s.expected → answers .notAffected s)
    ∧ (s.cycle = .preparing → b = s.batch → t ∈ s.expected →
        (yes = true → answers .ok (proceed (credit t .readyCredit { s with expected := s.expected.filter (· ≠ t) })))
        ∧ (yes = false →
            ((charge p t 2 .refusal (withdrawPart t s)).2 = false →
              answers .ok (proceed (charge p t 2 .refusal (withdrawPart t s)).1))
            ∧ ((charge p t 2 .refusal (withdrawPart t s)).2 = true →
              answers .ok (purge t (proceed (charge p t 2 .refusal (withdrawPart t s)).1))))))
  ∧ ∀ (s : State) (t : Tenant),
    let u := withdrawPart t s
    u = { s with table := u.table, expected := s.expected.filter (· ≠ t) }
    ∧ ∀ e, (u.entry e).generation = (s.entry e).generation
      ∧ ((s.life e).tenant? ≠ some t → u.life e = s.life e)
      ∧ ((s.life e).tenant? = some t → u.life e = match s.life e with
          | .adding a q _ _ _ => .staged a q
          | .dropping a q _ false => .retiring a q false
          | l => l)

/-! ### The end of the prepare phase, and the purge -/

/-- When the expected set is empty in PREPARING (R108, R111, R124): with batch entries left, the cycle is ARMED and the image of
every LIVE, RETIRING and ADDING entry, in ascending order of first granule and with the next epoch, is handed to the link as
a new send (R123); with none left, ABANDONED with BATCH_EMPTY goes to the called tenants and the cycle is QUIET. Otherwise
nothing happens. -/
def Obligations.ExpectedSetEmpties : Prop :=
  ∀ s : State,
    (s.cycle ≠ .preparing ∨ s.expected ≠ [] → proceed s = s)
    ∧ (s.cycle = .preparing → s.expected = [] →
      ((∃ e, ((s.life e).inBatch?).isSome = true) → ∃ image : PlanImage,
        proceed s = { s with
          cycle := .armed, prepareLeft := none, called := []
          sendNumber := s.sendNumber + 1, inFlight := some ⟨image, s.sendNumber + 1⟩
          transmit := s.transmit ++ [.image ⟨image, s.sendNumber + 1⟩], link := .sending, ackWait := none }
        ∧ image.epoch = s.epoch + 1 ∧ image.kind = .batch ∧ image.batch = s.batch
        ∧ image.spans.Pairwise (fun x y => x.first ≤ y.first)
        ∧ image.spans.Perm (allEntries.filterMap fun e => match s.life e with
            | .live a q _ | .retiring a q _ | .adding a q _ _ _ =>
              some { tenant := a.tenant, direction := a.direction, first := q.first, width := a.width,
                     density := q.density, serviceCode := a.serviceCode, tag := a.tag }
            | _ => none))
      ∧ ((∀ e, (s.life e).inBatch? = none) →
        proceed s = { issueAll s.called (.abandoned s.batch none) s with
          cycle := .quiet, prepareLeft := none, called := [] }))

/-- The purge of a tenant (R41, R42): each of its entries by its state and the cycle state, off the Pending List, out of the
expected and called sets with the cycle proceeding when that empties the expected set; then the trigger flag is set and a
sweep requested. A sweep position that stood on one of the tenant's entries moves to the first entry after it that stays, and the
end of the list is taken at once when no step is in hand (R79, R84). No running sum is out of step, no other tenant's entry is
touched. Afterwards the tenant has nothing in PENDING, STAGED or LIVE, and what is left of it is marked and forced. -/
def Obligations.PurgeTakesOut : Prop :=
  ∀ (s : State) (t : Tenant), ∃ u : State,
    purge t s = requestSweep { (if t ∈ s.expected then proceed u else u) with trigger := true }
    ∧ u = { s with table := u.table, load := u.load, held := u.held, entryCount := u.entryCount, waitList := u.waitList,
                   sweep := u.sweep, expected := s.expected.filter (· ≠ t), called := s.called.filter (· ≠ t) }
    ∧ u.waitList = s.waitList.filter (fun e => decide ((s.life e).tenant? ≠ some t))
    ∧ (s.sweep = .idle → u.sweep = .idle)
    ∧ (∀ e again, s.sweep = .running (.entry e) again → (s.life e).tenant? ≠ some t → u.sweep = s.sweep)
    ∧ (∀ before e after again, s.waitList.Nodup → s.waitList = before ++ e :: after → s.sweep = .running (.entry e) again →
        (s.life e).tenant? = some t →
        let next := after.find? (fun x => decide ((s.life x).tenant? ≠ some t))
        (s.inHand ≠ some .sweep → u.sweep = sweepOn again u.waitList next)
        ∧ (s.inHand = some .sweep → u.sweep = .running (posOf next) again))
    ∧ (s.inHand = some .sweep → ∀ again, s.sweep = .running .listEnd again → u.sweep = s.sweep)
    ∧ (SumsMatch s → SumsMatch u)
    ∧ (∀ e, (u.entry e).generation = (s.entry e).generation)
    ∧ (∀ e, (s.life e).tenant? ≠ some t → u.life e = s.life e)
    ∧ (∀ e, (s.life e).tenant? = some t → u.life e = match s.life e with
        | .adding a q b _ _ => if s.cycle = .preparing then .free else .adding a q b true true
        | .live a q _ | .retiring a q _ => .retiring a q true
        | .dropping a q b _ => .dropping a q b true
        | .cooling a q f => .cooling a q f
        | .free | .pending _ _ _ | .staged _ _ => .free)
    ∧ ∀ e, ((purge t s).life e).tenant? = some t → outOfPlan ((purge t s).life e) = true

/-! ### The Pending List and its sweep -/

/-- The four outcomes of a sweep step (R75, R82 to R85): the fit checks pass, and the entry is STAGED, leaves the list and
GRANTED is issued; one fails, and its reason is recorded; the tenant is PAUSED, and the entry is skipped; the position is END.
Where the sweep then stands is `sweepOn` (R83, R84). Nothing else changes; without a step in hand nothing does. -/
def Obligations.SweepStepOutcomes : Prop :=
  (∀ (s : State) (p : Profile) (e : EntryIx) (again : Bool) (a : Asked) (r : PendingReason) (w : Option Nat),
    Stepping s p e again a r w →
    let following := follower e s.waitList
    ((s.port a.tenant).mode = .paused →
      exec .sweepStep s = .next { s with sweep := sweepOn again s.waitList following, inHand := none })
    ∧ ((s.port a.tenant).mode ≠ .paused →
      (∀ r', FitFails p s a r' →
        exec .sweepStep s = .next
          { setLife e (.pending a r' w) s with sweep := sweepOn again s.waitList following, inHand := none })
      ∧ ∀ g, FitsAt p s a g →
        let b := placedSpan p a g
        let waiting := s.waitList.erase e
        exec .sweepStep s = .next (issue a.tenant
          (.granted { index := e, generation := (s.entry e).generation, direction := a.direction, first := g,
                      width := a.width, density := b.density, clamped := b.clamped, anchored := a.anchored, tag := a.tag })
          { setLife e (.staged a b) s with
            pace := s.pace.set a.tenant (p.tenant a.tenant).paceFrames
            waitList := waiting, sweep := sweepOn again waiting following, inHand := none })))
  ∧ (∀ (s : State) (p : Profile) (again : Bool), Settled s → s.device = .running p → s.inHand = some .sweep →
    s.sweep = .running .listEnd again →
    exec .sweepStep s = .next { s with sweep := sweepOn again s.waitList none, inHand := none })
  ∧ ∀ s : State, Settled s → s.inHand ≠ some .sweep → exec .sweepStep s = .next s

/-- A sweep request starts a sweep at the head, sets the again flag of one that runs, and does nothing on an empty list (R80,
R81). An entry that leaves the list moves a position that stood on it to the entry that followed, and the end of the list is
taken at once when no step is in hand (R79, R84); a position at END with a step in hand waits for that step's completion. An
insertion keeps the list in rank order with the new entry last of its rank (R77, R78). -/
def Obligations.ListAndSweepRequests : Prop :=
  (∀ s : State,
    (∀ pos again, s.sweep = .running pos again → requestSweep s = { s with sweep := .running pos true })
    ∧ (s.sweep = .idle → s.waitList = [] → requestSweep s = s)
    ∧ ∀ x rest, s.sweep = .idle → s.waitList = x :: rest → requestSweep s = { s with sweep := .running (.entry x) false })
  ∧ (∀ (s : State) (before after : List EntryIx) (e : EntryIx), s.waitList = before ++ e :: after → e ∉ before →
    let rest := before ++ after
    (∀ again, s.sweep = .running (.entry e) again →
      (s.inHand ≠ some .sweep →
        leaveList e s = { s with waitList := rest, sweep := sweepOn again rest after.head? })
      ∧ (s.inHand = some .sweep →
        leaveList e s = { s with waitList := rest, sweep := .running (posOf after.head?) again }))
    ∧ ((∀ again, s.sweep ≠ .running (.entry e) again) → (∀ again, s.sweep ≠ .running .listEnd again) →
      leaveList e s = { s with waitList := rest })
    ∧ (∀ again, s.sweep = .running .listEnd again → s.inHand = some .sweep →
      leaveList e s = { s with waitList := rest }))
  ∧ ∀ (rank : EntryIx → Nat) (e : EntryIx) (l : List EntryIx), l.Pairwise (fun x y => rank x ≤ rank y) →
    let l' := insertAfterLast (fun x => decide (rank x ≤ rank e)) e l
    l'.Pairwise (fun x y => rank x ≤ rank y)
    ∧ ∃ before after, l = before ++ after ∧ l' = before ++ e :: after ∧ ∀ x ∈ after, rank e < rank x

/-! ### Frame events -/

/-- FRAME_PULSE and INTERNAL_FRAME_COUNTDOWN, one frame event of the source that the profile names (R12 to R15, R35, R64, R88,
R93, R96, R107, R117, R127, R155): the frame counter rises by 1 and every countdown that runs falls by 1, the acknowledgement
wait rises while HOLDOFF is deasserted; then the expiries, then the freeze or commit test by the cycle state as it stood. The
order among the expiries is the command's, and what it leaves open the model's own; the ones it names late are left for their
own commands (log entry 2). A FRAME pulse with source INTERNAL and an internal countdown with source EXTERNAL do nothing, and
neither does either while the device is not RUNNING. -/
def Obligations.FrameEventCounts : Prop :=
  (∀ (s : State) (p : Profile) (holdoff : Bool), Settled s → s.device = .running p →
    let c := countFrame p holdoff s
    (c = { s with
        table := c.table, frameCounter := s.frameCounter + 1, pace := c.pace, conduct := c.conduct
        cadence := if p.triggerSource = .demand then s.cadence else s.cadence - 1
        prepareLeft := if s.cycle = .preparing then s.prepareLeft.map (· - 1) else s.prepareLeft
        settleLeft := if s.cycle = .settling then s.settleLeft.map (· - 1) else s.settleLeft
        ackWait := if s.link = .waitAck ∧ holdoff = false then s.ackWait.map (· + 1) else s.ackWait })
    ∧ (∀ t : Tenant, c.pace[t] = s.pace[t] - 1
        ∧ c.record t = { s.record t with recovery := (s.record t).recovery.map (· - 1) })
    ∧ (∀ e, (c.entry e).generation = (s.entry e).generation ∧ c.life e = match s.life e with
        | .live a q left => .live a q (left.map (· - 1))
        | .pending a r left => .pending a r (left.map (· - 1))
        | l => l)
    ∧ (∀ o : FrameOrder,
        let early := o.early.foldl (fun v it => takeExpiry it v) { c with due := dueAfter p s c }
        let now := early.due.filter fun it => decide (it ∉ o.late ∨ (it = .cadence ∧ s.cycle = .quiet))
        exec (frameCommand p.frameSource holdoff o) s = .next
          { cycleTest p s.cycle holdoff (now.foldl (fun v it => takeExpiry it v) early) with
            internalCountdown := recounted p s.internalCountdown })
    ∧ ∀ it, it ∈ dueAfter p s c ↔ match it with
        | .cadence => p.triggerSource ≠ .demand ∧ c.cadence = 0
        | .hold e => ∃ a q, c.life e = .live a q (some 0)
        | .lapse e => e ∈ s.waitList ∧ ∃ a r, c.life e = .pending a r (some 0)
        | .pace t => s.pace[t] = 1
        | .recovery t => (s.record t).recovery = some 1
        | .prepareTimeout => s.cycle = .preparing ∧ c.prepareLeft = some 0
        | .settleEnd => s.cycle = .settling ∧ c.settleLeft = some 0
        | .ackWait => s.link = .waitAck ∧ c.ackWait = some 4)
  ∧ ∀ (s : State) (holdoff : Bool) (o : FrameOrder), Settled s →
    ((∀ p, s.device = .running p → p.frameSource = .internal) → exec (.framePulse holdoff o) s = .next s)
    ∧ ((∀ p, s.device = .running p → p.frameSource = .external) →
        exec (.internalFrameCountdown holdoff o) s = .next s)

/-- HOLDOFF suspends the freeze, the commit and the acknowledgement wait, and leaves the frame counter and every other
countdown to run (R16, R98): a frame event under HOLDOFF counts as any other but for the acknowledgement wait, which keeps its
value, and neither freezes nor commits, so that batch and epoch numbers stand whatever else it brings. -/
def Obligations.HoldoffLeavesCountdowns : Prop :=
  (∀ (p : Profile) (s : State),
    countFrame p true s = { countFrame p false s with ackWait := s.ackWait }
    ∧ ∀ cycle, cycleTest p cycle true s = s)
  ∧ ∀ (s : State) (p : Profile) (o : FrameOrder), Settled s → s.device = .running p →
    ∃ u, exec (frameCommand p.frameSource true o) s = .next u ∧ u.frameCounter = s.frameCounter + 1 ∧ u.batch = s.batch
      ∧ u.epoch = s.epoch

/-- The freeze (R99, R101, R102), taken at a frame event in QUIET with the trigger flag set and HOLDOFF deasserted: every STAGED
entry becomes ADDING and every RETIRING one DROPPING with the next batch number and no sum changes; the tenants that owe an
answer are called with a PREPARE of their items in ascending order; the cycle is PREPARING, or ARMED at once when none is
called. -/
def Obligations.FreezeTaken : Prop :=
  ∀ (s : State) (p : Profile),
    (s.trigger = true → cycleTest p .quiet false s = freeze p s)
    ∧ (s.trigger = false → cycleTest p .quiet false s = s)
    ∧ ((∃ e a q, s.life e = .staged a q ∨ ∃ f, s.life e = .retiring a q f) →
      ∃ (u : State) (called : List Tenant),
        u = { s with table := u.table, trigger := false, batch := s.batch + 1, expected := called, called := called }
        ∧ (∀ e, (u.entry e).generation = (s.entry e).generation ∧ u.life e = match s.life e with
            | .staged a q => .adding a q (s.batch + 1) false false
            | .retiring a q f => .dropping a q (s.batch + 1) f
            | l => l)
        ∧ called.Pairwise (fun x y => x.val < y.val)
        ∧ (∀ t, t ∈ called ↔
            (∃ e, (u.life e).tenant? = some t ∧ ((∃ a q b m f, u.life e = .adding a q b m f)
                ∨ ∃ a q b, u.life e = .dropping a q b false))
            ∧ ((s.port t).mode = .active ∨ (s.port t).mode = .paused) ∧ (s.record t).isolated = false)
        ∧ (called = [] → freeze p s = handImage (batchImage u) { u with cycle := .armed, prepareLeft := none })
        ∧ (called ≠ [] →
            freeze p s = called.foldl (fun v t => issue t (.prepare u.batch (u.prepareItems t)) v)
              { u with prepareLeft := some p.prepareFrames, cycle := .preparing })
        ∧ ∀ t, (u.prepareItems t).Pairwise (fun i j => i.index.val < j.index.val)
          ∧ ∀ i : PrepareItem, i ∈ u.prepareItems t ↔ ∃ a q f, a.tenant = t
              ∧ ((∃ b m, u.life i.index = .adding a q b m f ∧ i.drop = false)
                  ∨ ∃ b, u.life i.index = .dropping a q b f ∧ i.drop = true)
              ∧ i.generation = (u.entry i.index).generation ∧ i.direction = a.direction ∧ i.first = q.first
              ∧ i.width = a.width ∧ i.density = q.density ∧ i.forced = f)

/-- A freeze that finds nothing STAGED and nothing RETIRING clears the trigger flag and does nothing more: the batch number, the
ports and the cycle stand, and with the flag clear no freeze is taken (R100). -/
def Obligations.EmptyFreeze : Prop :=
  ∀ (s : State) (p : Profile), (∀ e a q, s.life e ≠ .staged a q) → (∀ e a q f, s.life e ≠ .retiring a q f) →
    s.trigger = true →
    cycleTest p .quiet false s = { s with trigger := false }
    ∧ ∀ u : State, u.trigger = false → cycleTest p .quiet false u = u

/-- The commit (R113, R115, R116, R128), taken at a frame event in ARMED with the link ACKED and HOLDOFF deasserted: APPLY is
handed to the link and the epoch number becomes the image's; every ADDING entry goes on air, every DROPPING entry off it, with
the sums in step; the changed-granule set is the batch's granules while there is a settle window; COMMITTED goes to every
ACTIVE or PAUSED port; a sweep is requested when something was dropped. The start-up image is applied with no more than its
epoch and QUIET (R94). With any other link state there is neither. When the image in flight is the batch image as StepKeepsCycle
keeps it, the on-air set after the commit is the span list of the image applied (R34, R128). -/
def Obligations.CommitTaken : Prop :=
  (∀ (s : State) (p : Profile) (f : Flight), s.link = .acked → s.inFlight = some f →
    ∃ u : State,
      u = { s with
          table := u.table, load := u.load, held := u.held, entryCount := u.entryCount
          transmit := s.transmit ++ [.apply f.image.epoch f.send], inFlight := none, link := .idle, ackWait := none
          epoch := f.image.epoch, changed := u.changed
          cycle := if 0 < p.settleFrames then .settling else .quiet
          settleLeft := if 0 < p.settleFrames then some p.settleFrames else s.settleLeft }
      ∧ (SumsMatch s → SumsMatch u)
      ∧ (∀ e, (u.entry e).generation = (s.entry e).generation ∧ u.life e = match s.life e with
          | .adding a q _ true forced => .retiring a q forced
          | .adding a q _ false _ => .live a q a.hold
          | .dropping a q _ forced => if 0 < p.settleFrames then .cooling a q forced else .free
          | l => l)
      ∧ (∀ g, u.isChanged g = true ↔ 0 < p.settleFrames ∧ ∃ e a q, (s.life e).inBatch? = some (a, q)
          ∧ q.first ≤ g ∧ g < q.first + a.width)
      ∧ (let told := issueAll (allTenants.filter fun t => (s.port t).mode.takesPart)
            (.committed s.batch f.image.epoch) u
         ((∃ e a q b forced, s.life e = .dropping a q b forced) →
            cycleTest p .armed false s = requestSweep told)
         ∧ ((∀ e a q b forced, s.life e ≠ .dropping a q b forced) →
            cycleTest p .armed false s = told))
      ∧ (ImageOk s → s.cycle = .armed → f.image.spans.Perm (airSpans (cycleTest p .armed false s)))
      ∧ cycleTest p .initial false s = { s with
          transmit := s.transmit ++ [.apply f.image.epoch f.send], inFlight := none, link := .idle, ackWait := none
          epoch := f.image.epoch, cycle := .quiet })
  ∧ ∀ (s : State) (p : Profile), s.link ≠ .acked →
    cycleTest p .armed false s = s ∧ cycleTest p .initial false s = s

/-- The expiries of a frame event (R35, R64, R89, R96, R156, R158), each taken by its own command when the frame event left it
to be taken: the cadence calls a cycle and is loaded again; a hold that ran out retires its span with EXPIRED; a wait limit
that ran out frees its entry with LAPSED; a pace countdown that ran out requests a sweep; a recovery countdown that ran out
brings recovery in AUTO, and nothing more in the other modes. One that is not to be taken changes nothing, log entry 6. -/
def Obligations.ExpiriesTaken : Prop :=
  ∀ (s : State) (p : Profile), s.device = .running p →
    let left (it : FrameItem) : State := { s with due := s.due.erase it }
    (.cadence ∈ s.due → s.cadence = 0 →
      exec .cadenceExpiry s = .next { left .cadence with trigger := true, cadence := p.cadenceFrames })
    ∧ (∀ e a q, .hold e ∈ s.due → s.life e = .live a q (some 0) →
      exec (.holdExpiry e) s = .next (issue a.tenant
        (.expired e (s.entry e).generation a.direction q.first a.width) (setLife e (.retiring a q false) (left (.hold e)))))
    ∧ (∀ e a r, .lapse e ∈ s.due → s.life e = .pending a r (some 0) →
      exec (.lapse e) s = .next (issue a.tenant
        (.lapsed e (s.entry e).generation a.direction a.windowLo a.windowHi a.width r)
        (setLife e .free (leaveList e (left (.lapse e))))))
    ∧ (∀ t, .pace t ∈ s.due → exec (.paceExpiry t) s = .next (requestSweep (left (.pace t))))
    ∧ (∀ t, .recovery t ∈ s.due → (s.record t).isolated = true → (s.record t).recovery = some 0 →
      (p.recoveryMode = .auto → exec (.recoveryCountdownExpiry t) s = .next
        (issue t (.recovered .auto .auto .config)
          (((left (.recovery t)).setRecord t { counter := 0, warned := false, isolated := false, recovery := none }).setPort t
            { s.port t with mode := .config })))
      ∧ (p.recoveryMode ≠ .auto → exec (.recoveryCountdownExpiry t) s = .next (left (.recovery t))))
    ∧ (.cadence ∉ s.due → exec .cadenceExpiry s = .next s)
    ∧ (∀ e, .hold e ∉ s.due → exec (.holdExpiry e) s = .next s)
    ∧ (∀ e, .lapse e ∉ s.due → exec (.lapse e) s = .next s)
    ∧ (∀ t, .pace t ∉ s.due → exec (.paceExpiry t) s = .next s)
    ∧ ∀ t, .recovery t ∉ s.due → exec (.recoveryCountdownExpiry t) s = .next s

/-- The expiries that move the cycle (R107, R114, R117, R118, R127, R129). At the prepare timeout every tenant still expected is
treated as refusing and charged 8, the cycle proceeds, and the tenants so isolated are purged. At the settle end cooled
entries are freed, the changed-granule set is emptied, a sweep is requested and the cycle is QUIET. At the fourth counted
frame event without an acknowledgement, CANCEL is handed to the link; a batch image is given up and its batch abandoned, the
start-up image is sent again. One that is not to be taken changes nothing, log entry 6. That the charges of a timeout come before
what the cycle issues, and the purges in tenant order after both, is the model's inference, log entries 8 and 9. -/
def Obligations.CycleExpiriesTaken : Prop :=
  ∀ (s : State) (p : Profile), s.device = .running p →
    let left (it : FrameItem) : State := { s with due := s.due.erase it }
    (.prepareTimeout ∈ s.due → s.cycle = .preparing → s.prepareLeft = some 0 →
      ∃ u : State, u = { left .prepareTimeout with table := u.table, expected := [] }
        ∧ (∀ e, (u.entry e).generation = (s.entry e).generation)
        ∧ (∀ e t, (s.life e).tenant? = some t → t ∈ s.expected → u.life e = match s.life e with
            | .adding a q _ _ _ => .staged a q
            | .dropping a q _ false => .retiring a q false
            | l => l)
        ∧ (∀ e, (∀ t, (s.life e).tenant? = some t → t ∉ s.expected) → u.life e = s.life e)
        ∧ (let charged := chargeAll p 8 .timeout s.expected u
           exec .prepareTimeout s = .next (purgeAll charged.2 (proceed charged.1))))
    ∧ (.settleEnd ∈ s.due → s.cycle = .settling → s.settleLeft = some 0 →
      ∃ u : State, u = { left .settleEnd with
            table := u.table, load := u.load, held := u.held, entryCount := u.entryCount
            changed := [], settleLeft := none, cycle := .quiet }
        ∧ (SumsMatch s → SumsMatch u)
        ∧ (∀ e, (u.entry e).generation = (s.entry e).generation ∧ u.life e = match s.life e with
            | .cooling _ _ _ => .free
            | l => l)
        ∧ exec .settleEnd s = .next (requestSweep u))
    ∧ (∀ f : Flight, .ackWait ∈ s.due → s.link = .waitAck → s.inFlight = some f → s.ackWait = some 4 →
      let cancelled : State :=
        { left .ackWait with transmit := s.transmit ++ [.cancel f.image.epoch f.send] }
      (f.image.kind = .batch → exec .ackWaitExpiry s = .next
        (abandon f.image.epoch { cancelled with inFlight := none, link := .idle, ackWait := none }))
      ∧ (f.image.kind = .startUp → exec .ackWaitExpiry s = .next (handImage f.image cancelled)))
    ∧ (.prepareTimeout ∉ s.due → exec .prepareTimeout s = .next s)
    ∧ (.settleEnd ∉ s.due → exec .settleEnd s = .next s)
    ∧ (.ackWait ∉ s.due → exec .ackWaitExpiry s = .next s)

/-- An abandonment on the channelizer's account (R114): additions return to STAGED, or to FREE when release-marked, and drops to
RETIRING with forced kept; the cycle is QUIET, ABANDONED with the image's epoch goes to every ACTIVE or PAUSED port, the
trigger flag is set, and a sweep is requested when a marked addition was freed. The epoch number stands. -/
def Obligations.AbandonmentReturns : Prop :=
  ∀ (s : State) (epoch : BitVec 32), ∃ u : State,
    u = { s with table := u.table, load := u.load, held := u.held, entryCount := u.entryCount
                 cycle := .quiet, trigger := true }
    ∧ (SumsMatch s → SumsMatch u)
    ∧ (∀ e, (u.entry e).generation = (s.entry e).generation ∧ u.life e = match s.life e with
        | .adding a q _ false _ => .staged a q
        | .adding _ _ _ true _ => .free
        | .dropping a q _ forced => .retiring a q forced
        | l => l)
    ∧ (let told := issueAll (allTenants.filter fun t => (s.port t).mode.takesPart)
          (.abandoned s.batch (some epoch)) u
       ((∃ e a q b forced, s.life e = .adding a q b true forced) → abandon epoch s = requestSweep told)
       ∧ ((∀ e a q b forced, s.life e ≠ .adding a q b true forced) → abandon epoch s = told))

/-! ### The plan link -/

/-- The plan link (R123, R125, R126, R129, R177). An image wholly sent waits for its answer with the count at 0. An APPLY or
CANCEL wholly sent leaves the transmit order, and a start-up image that waited for the order to be empty is then handed
over. An ACK that matches in WAIT_ACK makes the link ACKED. A matching NAK in WAIT_ACK or ACKED fails the image: a batch image
is given up without CANCEL and its batch abandoned, the start-up image is cancelled and sent again. Any other ACK or NAK, and
a discarded frame, change nothing. -/
def Obligations.PlanLinkExchanges : Prop :=
  ∀ s : State, Settled s →
    (∀ f rest, s.transmit = .image f :: rest → exec .imageSendEnd s = .next { s with
        transmit := rest, pltx := (OutFrame.image f).bytes, link := .waitAck, ackWait := some 0 })
    ∧ (∀ g rest, s.transmit = g :: rest → OutFrame.isImage g = false →
      (rest ≠ [] ∨ s.startUpWaiting = none →
        exec .transmitFrameDone s = .next { s with transmit := rest, pltx := g.bytes })
      ∧ ∀ image, rest = [] → s.startUpWaiting = some image →
        exec .transmitFrameDone s = .next { s with
          pltx := g.bytes, startUpWaiting := none, sendNumber := s.sendNumber + 1
          inFlight := some ⟨image, s.sendNumber + 1⟩, transmit := [.image ⟨image, s.sendNumber + 1⟩]
          link := .sending, ackWait := none })
    ∧ (∀ p f, s.device = .running p → s.inFlight = some f →
      (s.link = .waitAck → exec (.ack f.image.epoch f.send) s = .next { s with link := .acked, ackWait := none })
      ∧ (s.link = .waitAck ∨ s.link = .acked →
        (f.image.kind = .batch → exec (.nak f.image.epoch f.send) s = .next
          (abandon f.image.epoch { s with inFlight := none, link := .idle, ackWait := none }))
        ∧ (f.image.kind = .startUp → exec (.nak f.image.epoch f.send) s = .next (handImage f.image
            { s with transmit := s.transmit ++ [.cancel f.image.epoch f.send] }))))
    ∧ (∀ (epoch : BitVec 32) (send : Byte),
      (s.link ≠ .waitAck ∨ (∀ f, s.inFlight = some f → f.image.epoch ≠ epoch ∨ f.send ≠ send) →
        exec (.ack epoch send) s = .next s)
      ∧ ((s.link ≠ .waitAck ∧ s.link ≠ .acked) ∨ (∀ f, s.inFlight = some f → f.image.epoch ≠ epoch ∨ f.send ≠ send) →
        exec (.nak epoch send) s = .next s))
    ∧ ∀ bytes, exec (.plrxFrameDiscard bytes) s = .next s

/-! ### The Spectrum Monitor -/

/-- The measurement link (R132 to R135, R177). The beginning of a transfer records whether MREADY is asserted, which it is while
the queue holds fewer than 4 reports. A report whose frame, count and run pass and whose transfer began with MREADY asserted
joins the queue with its values clamped, when the device is RUNNING in a mode other than OFF; any other report is discarded
without a trace. A report that no transfer's beginning preceded is taken as begun at its arrival, the model's choice, log entry
7, and one whose transfer a reload found under way is judged as any other, log entry 25; that a beginning takes the place of a
transfer already under way is the model's choice too, log entry 28. -/
def Obligations.ReportsArrive : Prop :=
  (∀ s : State, Settled s →
    exec .reportTransferBegin s = .next { s with transfer := some s.mready }
    ∧ (s.mready = true ↔ s.device ≠ .starting none
        ∧ ∀ p, s.device = .running p → s.reports.length < 4))
  ∧ (∀ (s : State) (bytes : List Byte) (strayBits : Bool), Settled s →
    let began := s.transfer.getD s.mready
    let ended : State := { s with transfer := none }
    (∀ p r, s.device = .running p → p.enforcement ≠ .off → began = true → readReport bytes strayBits = some r →
      exec (.measurementReport bytes strayBits) s = .next { ended with reports := s.reports ++ [r] })
    ∧ ((∀ p, s.device = .running p → p.enforcement = .off) ∨ began = false ∨ readReport bytes strayBits = none →
      exec (.measurementReport bytes strayBits) s = .next ended))
  ∧ (∀ (first : BitVec 16) (values : List Byte),
    let bytes := withCrc (be16 first ++ [BitVec.ofNat 8 values.length] ++ values)
    (1 ≤ values.length → values.length ≤ 32 → first.toNat + values.length - 1 ≤ 1199 →
      ∃ r : Report, readReport bytes false = some r ∧ r.first = first.toNat ∧ r.values.length = values.length
        ∧ ∀ (i : Nat) (v : Byte), values[i]? = some v → r.values[i]? = some
            (if v = 127 then none else some (if v.toInt < -40 then -40 else if 20 < v.toInt then 20 else v.toInt)))
    ∧ (values.length = 0 ∨ 32 < values.length ∨ 1199 < first.toNat + values.length - 1 → values.length < 256 →
      readReport bytes false = none))
  ∧ (∀ (bytes : List Byte) (strayBits : Bool),
    bytes.length < 3 ∨ (∃ count : Byte, bytes[2]? = some count ∧ bytes.length ≠ 5 + count.toNat) →
    readReport bytes strayBits = none)
  ∧ ∀ (bytes : List Byte), readReport bytes true = none
    ∧ ∀ (body : List Byte) (c1 c0 : Byte), bytes = body ++ [c1, c0] → join16 c1 c0 ≠ crc16 body →
      readReport bytes false = none

/-- Every received value is brought into the measured range −40..+20, 127 being not measured, and each value alone; a granule
measured at −40 or below gives no finding under a legal profile while every granted density is at least −8 (R133). That a granule
received as 127 and one received at −40 or below come to the same in this, and not in the credit of R144, is the model's reading
of R133, log entry 27. -/
def Obligations.ValuesAreClamped : Prop :=
  (∀ v : Byte,
    (v = 127 → clampValue v = none)
    ∧ (v.toInt ≤ -41 → clampValue v = some (-40))
    ∧ (-40 ≤ v.toInt → v.toInt ≤ 20 → clampValue v = some v.toInt)
    ∧ (21 ≤ v.toInt → v.toInt ≤ 126 → clampValue v = some 20))
  ∧ (∀ (bytes : List Byte) (strayBits : Bool) (r : Report), readReport bytes strayBits = some r →
    r.values = ((bytes.drop 3).take (bytes.length - 5)).map clampValue)
  ∧ ∀ (s : State) (p : Profile) (g : Nat) (v : Byte), LegalProfile p → (∀ a q, (a, q) ∈ s.onAir → -8 ≤ q.density) →
    v = 127 ∨ v.toInt ≤ -40 → (judge p s g (clampValue v)).2 = none

/-- How a granule is judged (R137 to R139): skipped when not measured or just switched; tested against the on-air span that covers
it; otherwise tested for STRAY and attributed to the tenant that has an on-air span within StrayReach nearer than every other
tenant's, or to none. That a value of −40 counts as tested while 127 is skipped is the model's reading of R133, log entry 27. -/
def Obligations.GranulesAreJudged : Prop :=
  ∀ (s : State) (p : Profile) (g : Nat),
    let inside (x : Asked × Placed) : Prop := x.2.first ≤ g ∧ g < x.2.first + x.1.width
    let away (x : Asked × Placed) : Nat :=
      if g < x.2.first then x.2.first - g else g - (x.2.first + x.1.width - 1)
    judge p s g none = (none, none)
    ∧ ∀ v : Int,
      ((∃ c ∈ s.changed, c.first ≤ g ∧ g < c.first + c.width) → judge p s g (some v) = (none, none))
      ∧ ((∀ c ∈ s.changed, ¬ (c.first ≤ g ∧ g < c.first + c.width)) →
        (∀ a q, (a, q) ∈ s.onAir → inside (a, q) → (∀ x ∈ s.onAir, inside x → x = (a, q)) →
          (v ≤ q.density + p.overMargin → judge p s g (some v) = (some a.tenant, none))
          ∧ (q.density + p.overMargin < v → judge p s g (some v) =
              (some a.tenant, some ⟨g, .overpower, some a.tenant, v - q.density - p.overMargin⟩)))
        ∧ ((∀ x ∈ s.onAir, ¬ inside x) → (∀ x ∈ s.onAir, 1 ≤ x.1.width) →
          (v ≤ p.strayLimit → judge p s g (some v) = (none, none))
          ∧ (p.strayLimit < v → ∃ party, judge p s g (some v) = (none, some ⟨g, .stray, party, v - p.strayLimit⟩)
            ∧ ∀ t, party = some t ↔ ∃ x ∈ s.onAir, x.1.tenant = t ∧ away x ≤ p.strayReach
                ∧ ∀ y ∈ s.onAir, y.1.tenant ≠ t → away x < away y)))

/-- A report's evaluation (R136, R140 to R145). It begins with a report waiting and none in hand. At its completion the findings
are merged into records (`RecordsOf`), which join the log in order; the log keeps the newest 16. In RECORD nothing else follows
but the restart of an isolated tenant's countdown; in REPORT and CONFINE the notices, the hand-overs and the purges follow
(ChargesAndCredits says which). The report leaves the queue, and the next evaluation begins when the queue is not empty, in the
same step (log entry 10). -/
def Obligations.ReportsAreEvaluated : Prop :=
  (∀ s : State, Settled s →
    (s.reports ≠ [] → s.evaluating = false → exec .reportEvaluationBegin s = .next { s with evaluating := true })
    ∧ (s.reports = [] ∨ s.evaluating = true → exec .reportEvaluationBegin s = .next s)
    ∧ (s.evaluating = false → exec .reportEvaluation s = .next s))
  ∧ ∀ (s : State) (p : Profile) (r : Report) (rest : List Report), Settled s → s.device = .running p →
    s.evaluating = true → s.reports = r :: rest →
    ∃ (records : List Violation) (u : State),
      exec .reportEvaluation s = .next u ∧ RecordsOf p s r records
      ∧ u.reports = rest ∧ u.evaluating = !rest.isEmpty ∧ u.logSeq = s.logSeq + BitVec.ofNat 16 records.length
      ∧ (s.log.length ≤ 16 → u.log = (s.log ++ records).drop (s.log.length + records.length - 16))
      ∧ (p.enforcement = .record → u = { s with
          log := u.log, logSeq := u.logSeq, conduct := u.conduct, reports := rest, evaluating := !rest.isEmpty }
        ∧ ∀ t, u.record t = if (s.record t).isolated = true ∧ (∃ v ∈ records, v.tenant = some t)
            then { s.record t with recovery := (s.record t).recovery.map fun _ => p.recoveryFrames } else s.record t)

/-! ### Conduct -/

/-- Charges and credits (R143 to R145, R149, R151, R152, R159): discarded for an isolated tenant; a charge raises the counter, warns at 96 with
WARNED, and at 128 isolates, loads the countdown but in LATCHED and issues ISOLATED, the purge being left to the event that
made the charge; a credit lowers it by 1 down to 0, and below 64 withdraws a warning with CLEARED. A report hands over, for each
tenant, in CONFINE a charge of 8 with a record or a credit when judged with none, for an isolated tenant with a record a
restart of its countdown in every mode, otherwise nothing; in REPORT and CONFINE a VIOLATION notice goes to the tenant of each
attributed record, in record order. So REPORT_EVALUATION leaves the state that its records and judgements give: the notices,
then the hand-overs by tenant, blamed by the records and judged by the granules, then the purges of those isolated (the order of
the purges is the model's inference, log entry 8; that a granule received at −40 counts as judged, and one received as 127 does
not, is its reading of R133, log entry 27). Nothing else changes. -/
def Obligations.ChargesAndCredits : Prop :=
  (∀ (s : State) (t : Tenant) (p : Profile) (cause : Cause),
    let c := s.record t
    (c.isolated = true → (∀ n, charge p t n cause s = (s, false)) ∧ credit t cause s = s)
    ∧ (c.isolated = false → RecordOk c →
      (∀ n, n ≤ 8 →
        (c.counter + n < 96 ∨ (c.warned = true ∧ c.counter + n < 128) →
          charge p t n cause s = (s.setRecord t { c with counter := c.counter + n }, false))
        ∧ (96 ≤ c.counter + n → c.counter < 96 → c.warned = false →
          charge p t n cause s = (issue t (.warned (c.counter + n) cause)
            (s.setRecord t { c with counter := c.counter + n, warned := true }), false))
        ∧ (128 ≤ c.counter + n →
          let countdown := if p.recoveryMode = .latched then none else some p.recoveryFrames
          charge p t n cause s = (issue t (.isolated (c.counter + n) cause p.recoveryMode countdown)
            (s.setRecord t { counter := c.counter + n, warned := true, isolated := true, recovery := countdown }), true)))
      ∧ (c.counter = 0 → credit t cause s = s)
      ∧ (0 < c.counter →
        (c.counter = 64 → c.warned = true → credit t cause s =
          issue t (.cleared 63 cause) (s.setRecord t { c with counter := 63, warned := false }))
        ∧ (c.counter ≠ 64 ∨ c.warned = false → credit t cause s = s.setRecord t { c with counter := c.counter - 1 }))))
  ∧ (∀ (p : Profile) (t : Tenant) (blamed judged : Bool) (s : State),
    ((s.record t).isolated = true →
      (blamed = true → handOver p t blamed judged s = (s.setRecord t
        { s.record t with recovery := (s.record t).recovery.map fun _ => p.recoveryFrames }, false))
      ∧ (blamed = false → handOver p t blamed judged s = (s, false)))
    ∧ ((s.record t).isolated = false →
      (p.enforcement ≠ .confine → handOver p t blamed judged s = (s, false))
      ∧ (p.enforcement = .confine →
        (blamed = true → handOver p t blamed judged s = charge p t 8 .violation s)
        ∧ (blamed = false → judged = true → handOver p t blamed judged s = (credit t .cleanCredit s, false))
        ∧ (blamed = false → judged = false → handOver p t blamed judged s = (s, false)))))
  ∧ (∀ (v : Violation) (s : State),
    (v.tenant = none → notifyRecord v s = s) ∧ ∀ t, v.tenant = some t → notifyRecord v s = issue t (.violation v) s)
  ∧ ∀ (s : State) (p : Profile) (r : Report) (rest : List Report), Settled s → s.device = .running p →
    s.evaluating = true → s.reports = r :: rest →
    ∃ (records : List Violation) (blamed judged : Tenant → Bool) (u : State),
      exec .reportEvaluation s = .next u ∧ RecordsOf p s r records
      ∧ (∀ t, blamed t = true ↔ ∃ v ∈ records, v.tenant = some t)
      ∧ (∀ t, judged t = true ↔ ∃ j ∈ judgeAll p s r.first r.values, j.1 = some t)
      ∧ (let joined : State := { s with log := u.log, logSeq := u.logSeq }
         let notified := if p.enforcement = .report ∨ p.enforcement = .confine then notifyAll records joined else joined
         let handed := handOverAll p blamed judged allTenants notified
         u = purgeAll handed.2 { handed.1 with reports := rest, evaluating := !rest.isEmpty })
      ∧ ∀ t, u.record t = (handOver p t (blamed t) (judged t) s).1.record t

/-! ### What every step keeps -/

/-- The running sums stay the sums over their sets, whatever command is taken (R32, R33). -/
def Obligations.StepKeepsSums : Prop := ∀ s t : State, SumsMatch s → step s = .next t → SumsMatch t

/-- The accumulators stay within the budgets and the held-granule counts within the quotas, whatever command is taken
(R32, R33, R65, R71). The running sums agree with their sets as well, so that what leaves a set was in its sum. -/
def Obligations.StepKeepsLimits : Prop :=
  ∀ s t : State, SumsMatch s → WithinLimits s → step s = .next t → WithinLimits t

/-- No two spans of the plan share a granule, and spans of two tenants in one direction keep their guard, whatever command is
taken (R31, R66). Every request stays within its ranges and every span placed on permitted ground of its window and direction, with
a granted density in its range and the load its width and that density give, likewise (R26, R66, R69 to R72). -/
def Obligations.StepKeepsPlanClear : Prop :=
  (∀ s t : State, PlanClear s → step s = .next t → PlanClear t)
  ∧ ∀ s t : State, SpansOk s → step s = .next t → SpansOk t

/-- The Pending List holds every PENDING entry once and nothing else, at most 64 of them, in rank order, and the sweep position names
an entry of it, whatever command is taken (R76 to R80, R84). -/
def Obligations.StepKeepsList : Prop := ∀ s t : State, ListOk s → step s = .next t → ListOk t

/-- The cycle state agrees with the entries' states, the cycle's sets and countdowns, and the image in flight, whatever command is
taken (R37, R93, R94, R101, R118, R122). In ARMED the image in flight stays the batch image, whose span list is what the commit
will put on air (R111, R128). -/
def Obligations.StepKeepsCycle : Prop :=
  (∀ s t : State, CycleOk s → step s = .next t → CycleOk t)
  ∧ ∀ s t : State, CycleOk s → ImageOk s → step s = .next t → ImageOk t

/-- A counter of 96 or more has been warned, an isolated tenant has one of 128 or more, no counter exceeds 135, and the recovery
countdown stands exactly while it should, whatever command is taken (R148, R149, R155). -/
def Obligations.StepKeepsConduct : Prop := ∀ s t : State, ConductOk s → step s = .next t → ConductOk t

/-- While a tenant is isolated it has nothing in PENDING, STAGED or LIVE, its additions are release-marked and forced, its drops
forced, and no answer of its is awaited, whatever command is taken (R42, R153). -/
def Obligations.StepKeepsIsolatedOut : Prop := ∀ s t : State, IsolatedOut s → step s = .next t → IsolatedOut t

/-- The notice queues, the log and the report queue keep their bounds, and the log its consecutive sequence numbers, whatever
command is taken (R131, R134, R163). -/
def Obligations.StepKeepsQueues : Prop := ∀ s t : State, QueuesOk s → step s = .next t → QueuesOk t

/-- The state after a device reset meets every invariant. -/
def Obligations.ResetMeetsInvariants : Prop :=
  SumsMatch State.reset ∧ WithinLimits State.reset ∧ PlanClear State.reset ∧ SpansOk State.reset ∧ ListOk State.reset
  ∧ CycleOk State.reset ∧ ImageOk State.reset
  ∧ ConductOk State.reset ∧ IsolatedOut State.reset ∧ QueuesOk State.reset

/-- What is on air changes only at a frame event, by a commit, and at a device reset or reload; every other command of the
opcode table leaves the on-air spans and the epoch number as they were (R34, R47, R115, R128), an expiry that a frame event
left over included. -/
def Obligations.AirChangesAtFrameEvents : Prop :=
  ∀ (c : Instr) (s t : State), mayChangeAir c = false → exec c s = .next t →
    (∀ e, (t.life e).onAir? = (s.life e).onAir?) ∧ t.epoch = s.epoch

/-- An entry's generation moves by 1 when the entry leaves FREE and at no other time, so that a handle outlives no entry: in a
state whose frame event is over, a command other than a device reset either leaves a generation, or increments that of an
entry which was FREE (R27, R28, R47). -/
def Obligations.GenerationMovesFromFree : Prop :=
  ∀ (c : Instr) (s t : State), c ≠ .deviceReset → Settled s → exec c s = .next t → ∀ e,
    (t.entry e).generation = (s.entry e).generation ∧ (s.life e = .free → t.life e = .free)
    ∨ s.life e = .free ∧ (t.entry e).generation = (s.entry e).generation + 1

/-- Every port frame is read back as the command it is: for each well-formed frame command, its bytes at its port spell exactly
that command, with every field at every value (R168, R175). -/
def Obligations.PortFramesRoundTrip : Prop :=
  ∀ (c : Instr) (t : Tenant) (bytes : List Byte), c.WellFormed = true → Decode.frameBytes c = some (t, bytes) →
    Decode.portFrame t bytes = c
end

