-- ==== Sys2Proof/Laws/State.lean ====
section
/-! SUPPORT. The small lemmas of the state's elementwise updates: what each reads back, and every field it leaves, all by
`rfl` or from the vector lemmas. Later proofs use these and never unfold a record update. -/

namespace Sys2Proof.Laws

open Machine

variable (s : State) (t u : Tenant) (e x : EntryIx)

/-! ### Reading and replacing a port -/

@[simp] theorem setPort_port (p : Port) : (s.setPort t p).port t = p := by
  simp [State.port, State.setPort]

theorem setPort_port_ne (p : Port) (h : u ≠ t) : (s.setPort t p).port u = s.port u := by
  have h' : ¬ t.val = u.val := fun q => h (Fin.ext q.symm)
  simp [State.port, State.setPort, h']

theorem setPort_port_eq (p : Port) : (s.setPort t p).port u = if u = t then p else s.port u := by
  split
  · subst u; simp
  · exact setPort_port_ne s t u p ‹_›

@[simp] theorem setPort_setPort (p q : Port) : (s.setPort t p).setPort t q = s.setPort t q := by
  simp [State.setPort]

@[simp] theorem setPort_self : s.setPort t (s.port t) = s := by
  simp [State.setPort, State.port]

theorem setPort_comm (p q : Port) (h : u ≠ t) :
    (s.setPort t p).setPort u q = (s.setPort u q).setPort t p := by
  have h' : t.val ≠ u.val := fun z => h (Fin.ext z.symm)
  simp [State.setPort, Vector.set_comm _ _ h']

/-! ### Reading and replacing a conduct record -/

@[simp] theorem setRecord_record (c : ConductRecord) : (s.setRecord t c).record t = c := by
  simp [State.record, State.setRecord]

theorem setRecord_record_ne (c : ConductRecord) (h : u ≠ t) : (s.setRecord t c).record u = s.record u := by
  have h' : ¬ t.val = u.val := fun q => h (Fin.ext q.symm)
  simp [State.record, State.setRecord, h']

theorem setRecord_record_eq (c : ConductRecord) : (s.setRecord t c).record u = if u = t then c else s.record u := by
  split
  · subst u; simp
  · exact setRecord_record_ne s t u c ‹_›

@[simp] theorem setRecord_setRecord (c d : ConductRecord) : (s.setRecord t c).setRecord t d = s.setRecord t d := by
  simp [State.setRecord]

@[simp] theorem setRecord_self : s.setRecord t (s.record t) = s := by
  simp [State.setRecord, State.record]

@[simp] theorem setPort_record (p : Port) : (s.setPort t p).record u = s.record u := rfl
@[simp] theorem setRecord_port (c : ConductRecord) : (s.setRecord t c).port u = s.port u := rfl
@[simp] theorem setPort_entry (p : Port) : (s.setPort t p).entry e = s.entry e := rfl
@[simp] theorem setPort_life (p : Port) : (s.setPort t p).life e = s.life e := rfl
@[simp] theorem setRecord_entry (c : ConductRecord) : (s.setRecord t c).entry e = s.entry e := rfl
@[simp] theorem setRecord_life (c : ConductRecord) : (s.setRecord t c).life e = s.life e := rfl

/-! ### Reading and replacing an entry's life or generation -/

@[simp] theorem setLife_entry (l : Life) : (setLife e l s).entry e = { s.entry e with life := l } := by
  simp [setLife, State.entry]

theorem setLife_entry_ne (l : Life) (h : x ≠ e) : (setLife e l s).entry x = s.entry x := by
  have h' : ¬ e.val = x.val := fun q => h (Fin.ext q.symm)
  simp [setLife, State.entry, h']

@[simp] theorem setLife_life (l : Life) : (setLife e l s).life e = l := by simp [State.life]

theorem setLife_life_ne (l : Life) (h : x ≠ e) : (setLife e l s).life x = s.life x := by
  simp [State.life, setLife_entry_ne s e x l h]

theorem setLife_life_eq (l : Life) : (setLife e l s).life x = if x = e then l else s.life x := by
  split
  · subst x; simp
  · exact setLife_life_ne s e x l ‹_›

@[simp] theorem setLife_generation (l : Life) : ((setLife e l s).entry x).generation = (s.entry x).generation := by
  by_cases h : x = e
  · subst x; simp
  · rw [setLife_entry_ne s e x l h]

@[simp] theorem setLife_port (l : Life) : (setLife e l s).port t = s.port t := rfl
@[simp] theorem setLife_record (l : Life) : (setLife e l s).record t = s.record t := rfl

@[simp] theorem bumpGeneration_entry :
    (bumpGeneration e s).entry e = { s.entry e with generation := (s.entry e).generation + 1 } := by
  simp [bumpGeneration, State.entry]

theorem bumpGeneration_entry_ne (h : x ≠ e) : (bumpGeneration e s).entry x = s.entry x := by
  have h' : ¬ e.val = x.val := fun q => h (Fin.ext q.symm)
  simp [bumpGeneration, State.entry, h']

@[simp] theorem bumpGeneration_life : (bumpGeneration e s).life x = s.life x := by
  by_cases h : x = e
  · subst x; simp [State.life]
  · simp [State.life, bumpGeneration_entry_ne s e x h]

@[simp] theorem bumpGeneration_port : (bumpGeneration e s).port t = s.port t := rfl
@[simp] theorem bumpGeneration_record : (bumpGeneration e s).record t = s.record t := rfl

/-! ### The fields each update leaves -/

@[simp] theorem setPort_device (p : Port) : (s.setPort t p).device = s.device := rfl
@[simp] theorem setPort_staged (p : Port) : (s.setPort t p).staged = s.staged := rfl
@[simp] theorem setPort_frameCounter (p : Port) : (s.setPort t p).frameCounter = s.frameCounter := rfl
@[simp] theorem setPort_internalCountdown (p : Port) : (s.setPort t p).internalCountdown = s.internalCountdown := rfl
@[simp] theorem setPort_table (p : Port) : (s.setPort t p).table = s.table := rfl
@[simp] theorem setPort_load (p : Port) : (s.setPort t p).load = s.load := rfl
@[simp] theorem setPort_held (p : Port) : (s.setPort t p).held = s.held := rfl
@[simp] theorem setPort_entryCount (p : Port) : (s.setPort t p).entryCount = s.entryCount := rfl
@[simp] theorem setPort_inHand (p : Port) : (s.setPort t p).inHand = s.inHand := rfl
@[simp] theorem setPort_arbiter (p : Port) : (s.setPort t p).arbiter = s.arbiter := rfl
@[simp] theorem setPort_pace (p : Port) : (s.setPort t p).pace = s.pace := rfl
@[simp] theorem setPort_waitList (p : Port) : (s.setPort t p).waitList = s.waitList := rfl
@[simp] theorem setPort_sweep (p : Port) : (s.setPort t p).sweep = s.sweep := rfl
@[simp] theorem setPort_cycle (p : Port) : (s.setPort t p).cycle = s.cycle := rfl
@[simp] theorem setPort_trigger (p : Port) : (s.setPort t p).trigger = s.trigger := rfl
@[simp] theorem setPort_cadence (p : Port) : (s.setPort t p).cadence = s.cadence := rfl
@[simp] theorem setPort_batch (p : Port) : (s.setPort t p).batch = s.batch := rfl
@[simp] theorem setPort_epoch (p : Port) : (s.setPort t p).epoch = s.epoch := rfl
@[simp] theorem setPort_expected (p : Port) : (s.setPort t p).expected = s.expected := rfl
@[simp] theorem setPort_called (p : Port) : (s.setPort t p).called = s.called := rfl
@[simp] theorem setPort_prepareLeft (p : Port) : (s.setPort t p).prepareLeft = s.prepareLeft := rfl
@[simp] theorem setPort_settleLeft (p : Port) : (s.setPort t p).settleLeft = s.settleLeft := rfl
@[simp] theorem setPort_changed (p : Port) : (s.setPort t p).changed = s.changed := rfl
@[simp] theorem setPort_link (p : Port) : (s.setPort t p).link = s.link := rfl
@[simp] theorem setPort_inFlight (p : Port) : (s.setPort t p).inFlight = s.inFlight := rfl
@[simp] theorem setPort_sendNumber (p : Port) : (s.setPort t p).sendNumber = s.sendNumber := rfl
@[simp] theorem setPort_ackWait (p : Port) : (s.setPort t p).ackWait = s.ackWait := rfl
@[simp] theorem setPort_transmit (p : Port) : (s.setPort t p).transmit = s.transmit := rfl
@[simp] theorem setPort_startUpWaiting (p : Port) : (s.setPort t p).startUpWaiting = s.startUpWaiting := rfl
@[simp] theorem setPort_pltx (p : Port) : (s.setPort t p).pltx = s.pltx := rfl
@[simp] theorem setPort_reports (p : Port) : (s.setPort t p).reports = s.reports := rfl
@[simp] theorem setPort_evaluating (p : Port) : (s.setPort t p).evaluating = s.evaluating := rfl
@[simp] theorem setPort_log (p : Port) : (s.setPort t p).log = s.log := rfl
@[simp] theorem setPort_logSeq (p : Port) : (s.setPort t p).logSeq = s.logSeq := rfl
@[simp] theorem setPort_transfer (p : Port) : (s.setPort t p).transfer = s.transfer := rfl
@[simp] theorem setPort_conduct (p : Port) : (s.setPort t p).conduct = s.conduct := rfl
@[simp] theorem setPort_due (p : Port) : (s.setPort t p).due = s.due := rfl
@[simp] theorem setPort_freeCount (p : Port) : (s.setPort t p).freeCount = s.freeCount := rfl
@[simp] theorem setPort_pending (p : Port) : (s.setPort t p).pending = s.pending := rfl

@[simp] theorem setRecord_device (c : ConductRecord) : (s.setRecord t c).device = s.device := rfl
@[simp] theorem setRecord_staged (c : ConductRecord) : (s.setRecord t c).staged = s.staged := rfl
@[simp] theorem setRecord_frameCounter (c : ConductRecord) : (s.setRecord t c).frameCounter = s.frameCounter := rfl
@[simp] theorem setRecord_internalCountdown (c : ConductRecord) : (s.setRecord t c).internalCountdown = s.internalCountdown := rfl
@[simp] theorem setRecord_table (c : ConductRecord) : (s.setRecord t c).table = s.table := rfl
@[simp] theorem setRecord_load (c : ConductRecord) : (s.setRecord t c).load = s.load := rfl
@[simp] theorem setRecord_held (c : ConductRecord) : (s.setRecord t c).held = s.held := rfl
@[simp] theorem setRecord_entryCount (c : ConductRecord) : (s.setRecord t c).entryCount = s.entryCount := rfl
@[simp] theorem setRecord_inHand (c : ConductRecord) : (s.setRecord t c).inHand = s.inHand := rfl
@[simp] theorem setRecord_arbiter (c : ConductRecord) : (s.setRecord t c).arbiter = s.arbiter := rfl
@[simp] theorem setRecord_pace (c : ConductRecord) : (s.setRecord t c).pace = s.pace := rfl
@[simp] theorem setRecord_waitList (c : ConductRecord) : (s.setRecord t c).waitList = s.waitList := rfl
@[simp] theorem setRecord_sweep (c : ConductRecord) : (s.setRecord t c).sweep = s.sweep := rfl
@[simp] theorem setRecord_cycle (c : ConductRecord) : (s.setRecord t c).cycle = s.cycle := rfl
@[simp] theorem setRecord_trigger (c : ConductRecord) : (s.setRecord t c).trigger = s.trigger := rfl
@[simp] theorem setRecord_cadence (c : ConductRecord) : (s.setRecord t c).cadence = s.cadence := rfl
@[simp] theorem setRecord_batch (c : ConductRecord) : (s.setRecord t c).batch = s.batch := rfl
@[simp] theorem setRecord_epoch (c : ConductRecord) : (s.setRecord t c).epoch = s.epoch := rfl
@[simp] theorem setRecord_expected (c : ConductRecord) : (s.setRecord t c).expected = s.expected := rfl
@[simp] theorem setRecord_called (c : ConductRecord) : (s.setRecord t c).called = s.called := rfl
@[simp] theorem setRecord_prepareLeft (c : ConductRecord) : (s.setRecord t c).prepareLeft = s.prepareLeft := rfl
@[simp] theorem setRecord_settleLeft (c : ConductRecord) : (s.setRecord t c).settleLeft = s.settleLeft := rfl
@[simp] theorem setRecord_changed (c : ConductRecord) : (s.setRecord t c).changed = s.changed := rfl
@[simp] theorem setRecord_link (c : ConductRecord) : (s.setRecord t c).link = s.link := rfl
@[simp] theorem setRecord_inFlight (c : ConductRecord) : (s.setRecord t c).inFlight = s.inFlight := rfl
@[simp] theorem setRecord_sendNumber (c : ConductRecord) : (s.setRecord t c).sendNumber = s.sendNumber := rfl
@[simp] theorem setRecord_ackWait (c : ConductRecord) : (s.setRecord t c).ackWait = s.ackWait := rfl
@[simp] theorem setRecord_transmit (c : ConductRecord) : (s.setRecord t c).transmit = s.transmit := rfl
@[simp] theorem setRecord_startUpWaiting (c : ConductRecord) : (s.setRecord t c).startUpWaiting = s.startUpWaiting := rfl
@[simp] theorem setRecord_pltx (c : ConductRecord) : (s.setRecord t c).pltx = s.pltx := rfl
@[simp] theorem setRecord_reports (c : ConductRecord) : (s.setRecord t c).reports = s.reports := rfl
@[simp] theorem setRecord_evaluating (c : ConductRecord) : (s.setRecord t c).evaluating = s.evaluating := rfl
@[simp] theorem setRecord_log (c : ConductRecord) : (s.setRecord t c).log = s.log := rfl
@[simp] theorem setRecord_logSeq (c : ConductRecord) : (s.setRecord t c).logSeq = s.logSeq := rfl
@[simp] theorem setRecord_transfer (c : ConductRecord) : (s.setRecord t c).transfer = s.transfer := rfl
@[simp] theorem setRecord_ports (c : ConductRecord) : (s.setRecord t c).ports = s.ports := rfl
@[simp] theorem setRecord_due (c : ConductRecord) : (s.setRecord t c).due = s.due := rfl
@[simp] theorem setRecord_freeCount (c : ConductRecord) : (s.setRecord t c).freeCount = s.freeCount := rfl
@[simp] theorem setRecord_pending (c : ConductRecord) : (s.setRecord t c).pending = s.pending := rfl

@[simp] theorem setLife_device (l : Life) : (setLife e l s).device = s.device := rfl
@[simp] theorem setLife_staged (l : Life) : (setLife e l s).staged = s.staged := rfl
@[simp] theorem setLife_frameCounter (l : Life) : (setLife e l s).frameCounter = s.frameCounter := rfl
@[simp] theorem setLife_internalCountdown (l : Life) : (setLife e l s).internalCountdown = s.internalCountdown := rfl
@[simp] theorem setLife_inHand (l : Life) : (setLife e l s).inHand = s.inHand := rfl
@[simp] theorem setLife_arbiter (l : Life) : (setLife e l s).arbiter = s.arbiter := rfl
@[simp] theorem setLife_pace (l : Life) : (setLife e l s).pace = s.pace := rfl
@[simp] theorem setLife_waitList (l : Life) : (setLife e l s).waitList = s.waitList := rfl
@[simp] theorem setLife_sweep (l : Life) : (setLife e l s).sweep = s.sweep := rfl
@[simp] theorem setLife_cycle (l : Life) : (setLife e l s).cycle = s.cycle := rfl
@[simp] theorem setLife_trigger (l : Life) : (setLife e l s).trigger = s.trigger := rfl
@[simp] theorem setLife_cadence (l : Life) : (setLife e l s).cadence = s.cadence := rfl
@[simp] theorem setLife_batch (l : Life) : (setLife e l s).batch = s.batch := rfl
@[simp] theorem setLife_epoch (l : Life) : (setLife e l s).epoch = s.epoch := rfl
@[simp] theorem setLife_expected (l : Life) : (setLife e l s).expected = s.expected := rfl
@[simp] theorem setLife_called (l : Life) : (setLife e l s).called = s.called := rfl
@[simp] theorem setLife_prepareLeft (l : Life) : (setLife e l s).prepareLeft = s.prepareLeft := rfl
@[simp] theorem setLife_settleLeft (l : Life) : (setLife e l s).settleLeft = s.settleLeft := rfl
@[simp] theorem setLife_changed (l : Life) : (setLife e l s).changed = s.changed := rfl
@[simp] theorem setLife_link (l : Life) : (setLife e l s).link = s.link := rfl
@[simp] theorem setLife_inFlight (l : Life) : (setLife e l s).inFlight = s.inFlight := rfl
@[simp] theorem setLife_sendNumber (l : Life) : (setLife e l s).sendNumber = s.sendNumber := rfl
@[simp] theorem setLife_ackWait (l : Life) : (setLife e l s).ackWait = s.ackWait := rfl
@[simp] theorem setLife_transmit (l : Life) : (setLife e l s).transmit = s.transmit := rfl
@[simp] theorem setLife_startUpWaiting (l : Life) : (setLife e l s).startUpWaiting = s.startUpWaiting := rfl
@[simp] theorem setLife_pltx (l : Life) : (setLife e l s).pltx = s.pltx := rfl
@[simp] theorem setLife_reports (l : Life) : (setLife e l s).reports = s.reports := rfl
@[simp] theorem setLife_evaluating (l : Life) : (setLife e l s).evaluating = s.evaluating := rfl
@[simp] theorem setLife_log (l : Life) : (setLife e l s).log = s.log := rfl
@[simp] theorem setLife_logSeq (l : Life) : (setLife e l s).logSeq = s.logSeq := rfl
@[simp] theorem setLife_transfer (l : Life) : (setLife e l s).transfer = s.transfer := rfl
@[simp] theorem setLife_conduct (l : Life) : (setLife e l s).conduct = s.conduct := rfl
@[simp] theorem setLife_ports (l : Life) : (setLife e l s).ports = s.ports := rfl
@[simp] theorem setLife_due (l : Life) : (setLife e l s).due = s.due := rfl
@[simp] theorem setLife_freeCount (l : Life) : (setLife e l s).freeCount = s.freeCount := rfl
@[simp] theorem setLife_pending (l : Life) : (setLife e l s).pending = s.pending := rfl

@[simp] theorem bumpGeneration_device : (bumpGeneration e s).device = s.device := rfl
@[simp] theorem bumpGeneration_staged : (bumpGeneration e s).staged = s.staged := rfl
@[simp] theorem bumpGeneration_frameCounter : (bumpGeneration e s).frameCounter = s.frameCounter := rfl
@[simp] theorem bumpGeneration_internalCountdown : (bumpGeneration e s).internalCountdown = s.internalCountdown := rfl
@[simp] theorem bumpGeneration_load : (bumpGeneration e s).load = s.load := rfl
@[simp] theorem bumpGeneration_held : (bumpGeneration e s).held = s.held := rfl
@[simp] theorem bumpGeneration_entryCount : (bumpGeneration e s).entryCount = s.entryCount := rfl
@[simp] theorem bumpGeneration_inHand : (bumpGeneration e s).inHand = s.inHand := rfl
@[simp] theorem bumpGeneration_arbiter : (bumpGeneration e s).arbiter = s.arbiter := rfl
@[simp] theorem bumpGeneration_pace : (bumpGeneration e s).pace = s.pace := rfl
@[simp] theorem bumpGeneration_waitList : (bumpGeneration e s).waitList = s.waitList := rfl
@[simp] theorem bumpGeneration_sweep : (bumpGeneration e s).sweep = s.sweep := rfl
@[simp] theorem bumpGeneration_cycle : (bumpGeneration e s).cycle = s.cycle := rfl
@[simp] theorem bumpGeneration_trigger : (bumpGeneration e s).trigger = s.trigger := rfl
@[simp] theorem bumpGeneration_cadence : (bumpGeneration e s).cadence = s.cadence := rfl
@[simp] theorem bumpGeneration_batch : (bumpGeneration e s).batch = s.batch := rfl
@[simp] theorem bumpGeneration_epoch : (bumpGeneration e s).epoch = s.epoch := rfl
@[simp] theorem bumpGeneration_expected : (bumpGeneration e s).expected = s.expected := rfl
@[simp] theorem bumpGeneration_called : (bumpGeneration e s).called = s.called := rfl
@[simp] theorem bumpGeneration_prepareLeft : (bumpGeneration e s).prepareLeft = s.prepareLeft := rfl
@[simp] theorem bumpGeneration_settleLeft : (bumpGeneration e s).settleLeft = s.settleLeft := rfl
@[simp] theorem bumpGeneration_changed : (bumpGeneration e s).changed = s.changed := rfl
@[simp] theorem bumpGeneration_link : (bumpGeneration e s).link = s.link := rfl
@[simp] theorem bumpGeneration_inFlight : (bumpGeneration e s).inFlight = s.inFlight := rfl
@[simp] theorem bumpGeneration_sendNumber : (bumpGeneration e s).sendNumber = s.sendNumber := rfl
@[simp] theorem bumpGeneration_ackWait : (bumpGeneration e s).ackWait = s.ackWait := rfl
@[simp] theorem bumpGeneration_transmit : (bumpGeneration e s).transmit = s.transmit := rfl
@[simp] theorem bumpGeneration_startUpWaiting : (bumpGeneration e s).startUpWaiting = s.startUpWaiting := rfl
@[simp] theorem bumpGeneration_pltx : (bumpGeneration e s).pltx = s.pltx := rfl
@[simp] theorem bumpGeneration_reports : (bumpGeneration e s).reports = s.reports := rfl
@[simp] theorem bumpGeneration_evaluating : (bumpGeneration e s).evaluating = s.evaluating := rfl
@[simp] theorem bumpGeneration_log : (bumpGeneration e s).log = s.log := rfl
@[simp] theorem bumpGeneration_logSeq : (bumpGeneration e s).logSeq = s.logSeq := rfl
@[simp] theorem bumpGeneration_transfer : (bumpGeneration e s).transfer = s.transfer := rfl
@[simp] theorem bumpGeneration_conduct : (bumpGeneration e s).conduct = s.conduct := rfl
@[simp] theorem bumpGeneration_ports : (bumpGeneration e s).ports = s.ports := rfl
@[simp] theorem bumpGeneration_due : (bumpGeneration e s).due = s.due := rfl
@[simp] theorem bumpGeneration_freeCount : (bumpGeneration e s).freeCount = s.freeCount := rfl
@[simp] theorem bumpGeneration_pending : (bumpGeneration e s).pending = s.pending := rfl

end Sys2Proof.Laws
end

