-- ==== Sys2Proof/Laws/Ops.lean ====
section
/-! SUPPORT. One lemma for each shared operation that says once what it can do: which fields it may change and to what. -/

namespace Sys2Proof.Laws

open Machine

/-! ### Entries -/

/-- A new life that adds to every sum what the old one did changes the table alone. -/
theorem setLife_kept (e : EntryIx) (l : Life) (s : State) (hl : ∀ d, l.loadIn d = (s.life e).loadIn d)
    (hh : ∀ t d, l.heldIn t d = (s.life e).heldIn t d) (hc : ∀ t, l.countIn t = (s.life e).countIn t) :
    setLife e l s = { s with table := s.table.set e { s.entry e with life := l } } := by
  have held : (Vector.ofFn fun t : Tenant => (⟨s.held[t].up + l.heldIn t .up - (s.life e).heldIn t .up,
      s.held[t].down + l.heldIn t .down - (s.life e).heldIn t .down⟩ : PerDir)) = s.held := by
    ext i hi
    simp [hh]
  have count : (Vector.ofFn fun t : Tenant => s.entryCount[t] + l.countIn t - (s.life e).countIn t) = s.entryCount := by
    ext i hi
    simp [hc]
  unfold setLife
  simp only [held, count, hl, Nat.add_sub_cancel]

/-- A move between lives that are in no load set changes the table and the entry counts alone. -/
theorem setLife_unloaded (e : EntryIx) (l : Life) (s : State) (hl : l.loaded? = none) (ho : (s.life e).loaded? = none) :
    setLife e l s = { s with
      table := s.table.set e { s.entry e with life := l }
      entryCount := Vector.ofFn fun t => s.entryCount[t] + l.countIn t - (s.life e).countIn t } := by
  have held : (Vector.ofFn fun t : Tenant => (⟨s.held[t].up + l.heldIn t .up - (s.life e).heldIn t .up,
      s.held[t].down + l.heldIn t .down - (s.life e).heldIn t .down⟩ : PerDir)) = s.held := by
    ext i hi
    simp [Life.heldIn, hl, ho]
  unfold setLife
  simp only [held, Life.loadIn, hl, ho, Nat.add_zero, Nat.sub_zero]

/-- A fold of `mapLives` over some entries: the frame. -/
theorem mapLives_fold_frame (f : EntryIx → Life → Option Life) (es : List EntryIx) (s : State) :
    ∃ table load held count, es.foldl (fun s e => match f e (s.life e) with | some l => setLife e l s | none => s) s
      = { s with table := table, load := load, held := held, entryCount := count } := by
  induction es generalizing s with
  | nil => exact ⟨_, _, _, _, rfl⟩
  | cons e es ih =>
    simp only [List.foldl_cons]
    cases f e (s.life e) with
    | none => exact ih s
    | some l =>
      obtain ⟨a, b, c, d, h⟩ := ih (setLife e l s)
      exact ⟨a, b, c, d, h⟩

/-- `mapLives` changes the table and its sums alone. -/
theorem mapLives_frame (f : EntryIx → Life → Option Life) (s : State) :
    ∃ table load held count, mapLives f s
      = { s with table := table, load := load, held := held, entryCount := count } :=
  mapLives_fold_frame f allEntries s

theorem mapLives_fold_entry (f : EntryIx → Life → Option Life) (es : List EntryIx) (s : State) (hd : es.Nodup)
    (x : EntryIx) :
    (es.foldl (fun s e => match f e (s.life e) with | some l => setLife e l s | none => s) s).entry x
      = if x ∈ es then { s.entry x with life := (f x (s.life x)).getD (s.life x) } else s.entry x := by
  induction es generalizing s with
  | nil => simp
  | cons e es ih =>
    obtain ⟨he, hes⟩ := List.nodup_cons.mp hd
    simp only [List.foldl_cons]
    rw [ih _ hes]
    by_cases hx : x = e
    · subst hx
      simp only [he, if_false, List.mem_cons, true_or, if_true]
      cases f x (s.life x) <;> simp [State.life]
    · have key : ∀ l, (setLife e l s).entry x = s.entry x := fun l => setLife_entry_ne s e x l hx
      simp only [List.mem_cons, hx, false_or]
      cases f e (s.life e) <;> simp [State.life, key]

/-- What `mapLives` makes of each entry. -/
theorem mapLives_entry (f : EntryIx → Life → Option Life) (s : State) (x : EntryIx) :
    (mapLives f s).entry x = { s.entry x with life := (f x (s.life x)).getD (s.life x) } := by
  have h := mapLives_fold_entry f allEntries s (List.nodup_finRange 256) x
  have hx : x ∈ allEntries := List.mem_finRange x
  rw [if_pos hx] at h
  exact h

@[simp] theorem mapLives_life (f : EntryIx → Life → Option Life) (s : State) (x : EntryIx) :
    (mapLives f s).life x = (f x (s.life x)).getD (s.life x) := by
  simp [State.life, mapLives_entry]

@[simp] theorem mapLives_generation (f : EntryIx → Life → Option Life) (s : State) (x : EntryIx) :
    ((mapLives f s).entry x).generation = (s.entry x).generation := by
  simp [mapLives_entry]

/-- Moves that add to every sum what they took change the table alone. -/
theorem mapLives_kept (f : EntryIx → Life → Option Life) (s : State)
    (h : ∀ e l l', f e l = some l' → (∀ d, l'.loadIn d = l.loadIn d) ∧ (∀ t d, l'.heldIn t d = l.heldIn t d)
      ∧ ∀ t, l'.countIn t = l.countIn t) :
    mapLives f s = { s with table := (mapLives f s).table } := by
  have key : ∀ (es : List EntryIx) (s : State), ∃ table,
      es.foldl (fun s e => match f e (s.life e) with | some l => setLife e l s | none => s) s
        = { s with table := table } := by
    intro es
    induction es with
    | nil => exact fun s => ⟨_, rfl⟩
    | cons e es ih =>
      intro s
      simp only [List.foldl_cons]
      cases hf : f e (s.life e) with
      | none => exact ih s
      | some l =>
        obtain ⟨hl, hh, hc⟩ := h e _ _ hf
        obtain ⟨table, ht⟩ := ih (setLife e l s)
        refine ⟨table, ?_⟩
        simp only [setLife_kept e l s hl hh hc] at ht ⊢
        exact ht
  obtain ⟨table, ht⟩ := key allEntries s
  have : mapLives f s = { s with table := table } := ht
  rw [this]

/-! ### Notices -/

/-- A notice leaves the port's slots, mode, mask, flags and frame as they were. -/
theorem noted_frame (frame : BitVec 32) (body : NoticeBody) (p : Port) :
    ∃ queue missed, p.noted frame body = { p with queue := queue, missed := missed } := by
  unfold Port.noted
  by_cases h1 : p.prst = true
  · exact ⟨p.queue, p.missed, by rw [if_pos h1]⟩
  · by_cases h2 : p.mode = .offline ∧ body.isConduct = false
    · exact ⟨p.queue, p.missed, by rw [if_neg h1, if_pos h2]⟩
    · by_cases h3 : p.mask.getLsbD body.bit = false ∨ Config.queueMax ≤ p.queue.length
      · exact ⟨p.queue, _, by rw [if_neg h1, if_neg h2, if_pos h3]⟩
      · exact ⟨_, p.missed, by rw [if_neg h1, if_neg h2, if_neg h3]⟩

theorem issue_frame (t : Tenant) (body : NoticeBody) (s : State) :
    ∃ ports, issue t body s = { s with ports := ports } := ⟨_, rfl⟩

/-- A run of notices changes ports alone. -/
theorem foldl_issue_frame {α : Type} (xs : List α) (t : State → α → Tenant) (body : State → α → NoticeBody) (s : State) :
    ∃ ports, xs.foldl (fun s x => issue (t s x) (body s x) s) s = { s with ports := ports } := by
  induction xs generalizing s with
  | nil => exact ⟨_, rfl⟩
  | cons x xs ih =>
    obtain ⟨ports, h⟩ := ih (issue (t s x) (body s x) s)
    exact ⟨ports, h⟩

theorem issueAll_frame (ts : List Tenant) (body : NoticeBody) (s : State) :
    ∃ ports, issueAll ts body s = { s with ports := ports } :=
  foldl_issue_frame ts (fun _ t => t) (fun _ _ => body) s

/-! ### The Pending List and the sweep -/

theorem follower_append (e : EntryIx) (before after : List EntryIx) (h : e ∉ before) :
    follower e (before ++ e :: after) = after.head? := by
  induction before with
  | nil => simp [follower]
  | cons x before ih =>
    have hx : x ≠ e := fun q => h (by simp [q])
    simp [follower, hx, ih (fun q => h (by simp [q]))]

/-- An insertion splits the list behind the last element that is ahead (R78). -/
theorem insertAfterLast_split (ahead : EntryIx → Bool) (e : EntryIx) (l : List EntryIx) :
    ∃ before after, l = before ++ after ∧ insertAfterLast ahead e l = before ++ e :: after
      ∧ (∀ x ∈ after, ahead x = false) ∧ ∀ x, before.getLast? = some x → ahead x = true := by
  induction l with
  | nil => exact ⟨[], [], by simp [insertAfterLast]⟩
  | cons x rest ih =>
    simp only [insertAfterLast]
    by_cases h : (ahead x || rest.any ahead) = true
    · rw [if_pos h]
      obtain ⟨b, a, h1, h2, h3, h4⟩ := ih
      refine ⟨x :: b, a, by simp [h1], by simp [h2], h3, ?_⟩
      intro y hy
      cases b with
      | nil =>
        simp only [List.getLast?_singleton, Option.some.injEq] at hy
        subst hy
        simp only [List.nil_append] at h1
        subst h1
        simp only [Bool.or_eq_true, List.any_eq_true] at h
        rcases h with h | ⟨z, hz, hz'⟩
        · exact h
        · rw [h3 z hz] at hz'; cases hz'
      | cons b0 b => apply h4; simpa using hy
    · rw [if_neg h]
      refine ⟨[], x :: rest, by simp, by simp, ?_, by simp⟩
      simp only [Bool.or_eq_true, List.any_eq_true, not_or, Bool.not_eq_true, not_exists, not_and] at h
      intro y hy
      rcases List.mem_cons.mp hy with rfl | hy
      · exact h.1
      · exact h.2 y hy

/-! ### The prepare phase, the purge and conduct -/

/-- What `proceed` may change. -/
theorem proceed_frame (s : State) :
    ∃ cycle prepareLeft called sendNumber inFlight transmit link ackWait ports, proceed s
      = { s with cycle := cycle, prepareLeft := prepareLeft, called := called, sendNumber := sendNumber,
                 inFlight := inFlight, transmit := transmit, link := link, ackWait := ackWait, ports := ports } := by
  unfold proceed
  split
  · split
    · exact ⟨_, _, _, _, _, _, _, _, _, rfl⟩
    · obtain ⟨ports, h⟩ := issueAll_frame s.called (.abandoned s.batch none) s
      simp only [batchEmpty, h]
      exact ⟨_, _, _, _, _, _, _, _, _, rfl⟩
  · exact ⟨_, _, _, _, _, _, _, _, _, rfl⟩

theorem proceed_eq_self (s : State) (h : s.cycle ≠ .preparing ∨ s.expected ≠ []) : proceed s = s := by
  unfold proceed
  rw [if_neg]
  rintro ⟨a, b⟩
  exact h.elim (fun h => h a) (fun h => h b)

theorem foldl_issue_one (t : Tenant) (bodies : List NoticeBody) (s : State) :
    ∃ q, bodies.foldl (fun s body => issue t body s) s = s.setPort t q := by
  induction bodies generalizing s with
  | nil => exact ⟨s.port t, (setPort_self s t).symm⟩
  | cons b bodies ih =>
    obtain ⟨q, h⟩ := ih (issue t b s)
    exact ⟨q, h.trans (setPort_setPort s t _ q)⟩

/-- A charge changes its tenant's record and port alone. -/
theorem charge_frame (p : Profile) (t : Tenant) (n : Nat) (cause : Cause) (s : State) :
    ∃ c q, (charge p t n cause s).1 = (s.setRecord t c).setPort t q := by
  by_cases h : (s.record t).isolated = true
  · exact ⟨s.record t, s.port t, by simp [charge, h]⟩
  · simp only [charge, h, if_false, Bool.false_eq_true]
    obtain ⟨q, hq⟩ := foldl_issue_one t _ (s.setRecord t _)
    exact ⟨_, q, hq⟩

/-- A charge isolates its tenant exactly when it was not isolated and the counter crosses 128 (R152). -/
theorem charge_isolates (p : Profile) (t : Tenant) (n : Nat) (cause : Cause) (s : State) :
    (charge p t n cause s).2 = true ↔ (s.record t).isolated = false ∧ (s.record t).counter < 128
      ∧ 128 ≤ (s.record t).counter + n := by
  by_cases h : (s.record t).isolated = true
  · simp [charge, h]
  · simp only [charge, h, Bool.and_eq_true, decide_eq_true_eq, Bool.false_eq_true, if_false, true_and]
    exact Iff.rfl

/-- A credit changes its tenant's record and port alone. -/
theorem credit_frame (t : Tenant) (cause : Cause) (s : State) :
    ∃ c q, credit t cause s = (s.setRecord t c).setPort t q := by
  unfold credit
  by_cases h : (s.record t).isolated = true ∨ (s.record t).counter = 0
  · exact ⟨s.record t, s.port t, by simp [h]⟩
  · simp only [h, if_false]
    split
    · exact ⟨_, _, rfl⟩
    · exact ⟨_, s.port t, (by rw [← setRecord_port s t t, setPort_self])⟩

/-- A restart changes its tenant's record alone. -/
theorem restartRecovery_frame (p : Profile) (t : Tenant) (s : State) :
    ∃ c, restartRecovery p t s = s.setRecord t c := by
  unfold restartRecovery
  dsimp only
  split
  · exact ⟨_, rfl⟩
  · exact ⟨s.record t, (setRecord_self s t).symm⟩

/-- The withdrawal of a tenant's part of a batch changes the table with its sums and the expected set alone. -/
theorem withdrawPart_frame (t : Tenant) (s : State) :
    ∃ table load held count, withdrawPart t s
      = { s with table := table, load := load, held := held, entryCount := count,
                 expected := s.expected.filter (· ≠ t) } := by
  obtain ⟨a, b, c, d, h⟩ :=
    mapLives_frame (fun _ l => if l.tenant? = some t then returnedLife l else none) s
  exact ⟨a, b, c, d, by unfold withdrawPart leaveExpected; rw [h]⟩

/-- Several entries leaving the list change the list and the sweep alone. -/
theorem foldl_leaveList_frame (es : List EntryIx) (s : State) :
    ∃ waitList sweep, es.foldl (fun s e => leaveList e s) s = { s with waitList := waitList, sweep := sweep } := by
  induction es generalizing s with
  | nil => exact ⟨_, _, rfl⟩
  | cons e es ih =>
    obtain ⟨a, b, h⟩ := ih (leaveList e s)
    exact ⟨a, b, h⟩

/-- Recovery resets its tenant's record, sets the port's mode and issues RECOVERED, and does no more (R158). -/
theorem takeRecovery_eq (p : Profile) (t : Tenant) (how : RecoveryHow) (s : State) :
    takeRecovery p t how s = (s.setRecord t resetConduct).setPort t
      (Port.noted s.frameCounter (.recovered p.recoveryMode how .config) { s.port t with mode := .config }) := by
  simp [takeRecovery, issue]

/-! ### Expiries and the rows -/

/-- With nothing left over from the last frame event, `settleDue` changes nothing. -/
theorem settleDue_settled (s : State) (h : s.due = []) : settleDue s = s := by
  simp [settleDue, h]

theorem takeExpiry_not_due (it : FrameItem) (s : State) (h : it ∉ s.due) : takeExpiry it s = s := by
  unfold takeExpiry
  split <;> simp [h]

theorem takeExpiry_due (it : FrameItem) (s : State) (p : Profile) (hd : s.device = .running p) (h : it ∈ s.due) :
    takeExpiry it s = expire p it { s with due := s.due.erase it } := by
  simp [takeExpiry, hd, h]

/-- The evaluation in hand completes: the shape every engine row has on a port's request. -/
theorem completeFor_eq {α : Type} (select : EngineRequest → Option α)
    (eval : Profile → Tenant → α → State → State × Answer) (s : State) (p : Profile) (t : Tenant) (r : EngineRequest)
    (x : α) (hd : s.device = .running p) (hh : s.inHand = some (.port t)) (hr : (s.port t).request = some r)
    (hs : select r = some x) (hc : requestCheck t (requestKind r) s = none) :
    completeFor select eval s = { respond t (requestKind r) (eval p t x s).2 (eval p t x s).1 with inHand := none } := by
  simp [completeFor, hh, State.profile?, hd, hr, hs, hc]

/-- A request taken at its acceptance with an empty slot and every check passed. -/
theorem takeNow_eq (t : Tenant) (k : FrameKind) (act : State → State × Answer) (s : State) (ha : s.inert t = false)
    (he : (s.port t).request = none)
    (hc : requestCheck t k ((endRequestFrame t (k.length.getD 0) s).setPort t
      { (endRequestFrame t (k.length.getD 0) s).port t with response := none }) = none) :
    takeNow t k act s =
      (let s2 := (endRequestFrame t (k.length.getD 0) s).setPort t
        { (endRequestFrame t (k.length.getD 0) s).port t with response := none }
       respond t k (act s2).2 (act s2).1) := by
  have h2 : ((endRequestFrame t (k.length.getD 0) s).port t).request.isSome = false := by
    simp [endRequestFrame, he]
  unfold takeNow
  rw [if_neg (by simp [ha])]
  dsimp only
  rw [if_neg (by simp [h2]), hc]

end Sys2Proof.Laws
end

