-- ==== Sys2Proof/Laws/Engine.lean ====
section
/-! SUPPORT. The lemmas of admission and the Plan Engine that say what a step of an evaluation finds, in the terms of
Safety's situations. -/

namespace Sys2Proof.Laws

open Machine Safety

theorem lowestFree_eq (s : State) (e : EntryIx) (h : s.life e = .free) (hl : ∀ x : EntryIx, x.val < e.val → s.life x ≠ .free) :
    s.lowestFree = some e := by
  unfold State.lowestFree allEntries
  rw [List.find?_eq_some_iff_append]
  refine ⟨by simp [h], (List.finRange 256).take e.val, (List.finRange 256).drop (e.val+1), ?_, ?_⟩
  · have : (List.finRange 256) = (List.finRange 256).take e.val ++ (List.finRange 256).drop e.val := by simp
    conv_lhs => rw [this]
    congr 1
    rw [List.drop_eq_getElem_cons (by simp)]
    simp
  · intro x hx
    rw [List.mem_take_iff_getElem] at hx
    obtain ⟨i, hi, rfl⟩ := hx
    simp only [List.getElem_finRange, Bool.not_eq_true', decide_eq_false_iff_not]
    exact hl _ (by simp; omega)

theorem bumpGeneration_lives (s : State) (e : EntryIx) : (bumpGeneration e s).table.toList.map Entry.life = s.table.toList.map Entry.life := by
  apply List.ext_getElem
  · simp
  · intro i h1 h2
    have hi : i < 256 := by simpa using h1
    have := bumpGeneration_life s e ⟨i, hi⟩
    simpa [State.life, State.entry] using this

theorem bumpGeneration_occupied (s : State) (e : EntryIx) : (bumpGeneration e s).occupied = s.occupied := by
  have key : ∀ u : State, u.occupied = (u.table.toList.map Entry.life).filterMap Life.occupies? := by
    intro u; simp [State.occupied, List.filterMap_map]
  rw [key, key, bumpGeneration_lives]

theorem bumpGeneration_candidate (p : Profile) (s : State) (a : Asked) (e : EntryIx) : candidate p (bumpGeneration e s) a = candidate p s a := by
  funext g; simp [candidate, bumpGeneration_occupied]

theorem bumpGeneration_placement (p : Profile) (s : State) (a : Asked) (e : EntryIx) : placement p (bumpGeneration e s) a = placement p s a := by
  simp [placement, bumpGeneration_candidate]

theorem fitChecks_ok (p : Profile) (s : State) (a : Asked) (g : Nat) (h : FitsAt p s a g) : fitChecks p s a = .ok (placedSpan p a g) := by
  have h1 := h.pace; have h2 := h.quota; have h3 := h.room; have h4 := h.load
  have : placedAt p a g = placedSpan p a g := rfl
  unfold fitChecks
  rw [if_neg (by omega), if_neg (by omega), h3]
  simp only [this]
  rw [if_pos]
  exact h4

theorem fitChecks_error (p : Profile) (s : State) (a : Asked) (r : PendingReason) (h : FitFails p s a r) : fitChecks p s a = .error r := by
  unfold fitChecks
  cases r with
  | pace => have h : 0 < s.pace[a.tenant] := h; rw [if_pos h]
  | quota => obtain ⟨h1, h2⟩ := h; rw [if_neg (by omega), if_pos h2]
  | room => obtain ⟨h1, h2, h3⟩ := h; rw [if_neg (by omega), if_neg (by omega), h3]
  | load => obtain ⟨h1, h2, g, h3, h4⟩ := h; rw [if_neg (by omega), if_neg (by omega), h3]; simp only; rw [if_neg]; show ¬ _ ≤ _; simp only [placedAt]; omega

theorem bumpGeneration_fitChecks (p : Profile) (s : State) (a : Asked) (e : EntryIx) : fitChecks p (bumpGeneration e s) a = fitChecks p s a := by
  simp [fitChecks, bumpGeneration_placement]; rfl

theorem applyRules_tenant (p : Profile) (t : Tenant) (q : PlaceAsk) (a : Asked) (h : applyRules p t q = .ok a) : a.tenant = t := by
  unfold applyRules at h
  split at h
  · cases h
  · split at h
    · cases h
    · unfold reshape at h
      split at h
      · cases h
      · split at h
        · cases h; rfl
        · cases h

theorem admission_tenant (p : Profile) (t : Tenant) (f : PlaceFields) (q a) (h : admission p t f = .ok (q, a)) : a.tenant = t := by
  unfold admission at h
  cases h1 : placeAsk f with
  | none => simp [h1] at h
  | some q1 =>
    simp only [h1] at h
    split at h
    · cases h
    · cases h2 : applyRules p t q1 with
      | error c => simp [h2] at h
      | ok b =>
        simp only [h2] at h
        split at h
        · cases h
        · simp only [Except.ok.injEq, Prod.mk.injEq] at h
          obtain ⟨-, rfl⟩ := h
          exact applyRules_tenant p t q1 b h2

theorem requestCheck_none (s : State) (p : Profile) (t : Tenant) (r : EngineRequest) (h : Evaluating s p t r) : requestCheck t (requestKind r) s = none := by
  have hr := h.running; have hn := h.notIsolated; have hal := h.allowed
  simp [requestCheck, State.deviceState, hr, hn, hal]

theorem place_evaluates (s p t f q a e) (h : Allocating s p t f q a e) :
    exec .place s = .next { respond t .place (evalPlace p t f s).2 (evalPlace p t f s).1 with inHand := none } := by
  have hs := settleDue_settled s h.settled
  have hs' : settleDue s = s := hs
  unfold exec execPlace
  rw [hs']
  rw [completeFor_eq _ _ s p t (.place f) f h.running h.inHand h.inSlot rfl (requestCheck_none s p t _ h.toEvaluating)]
  rfl

/-- A PLACE evaluation whose entry is allocated ends as its fit checks say. -/
theorem evalPlace_allocated {s p t f q a e} (h : Allocating s p t f q a e)
    (hq : a.width ≤ (p.tenant t).quota a.direction) :
    evalPlace p t f s = match fitChecks p s a with
      | .ok b => (stage p e a b (bumpGeneration e s),
          (.granted, .granted (grantInfo e ((bumpGeneration e s).entry e).generation a b)))
      | .error r => fitFailed p e a q r (bumpGeneration e s) := by
  have hp := h.hasPlace
  unfold evalPlace
  rw [h.admitted]
  dsimp only
  rw [lowestFree_eq s e h.isFree h.lowest]
  dsimp only
  rw [if_neg (Nat.not_le.mpr hp), if_neg (Nat.not_lt.mpr hq), bumpGeneration_fitChecks]
  all_goals rfl

/-- A request in the engine that a check of R165 refuses is answered with that check's code, and nothing else changes. -/
theorem completion_refused {s : State} {p : Profile} {t : Tenant} {r : EngineRequest} {c : ResponseCode}
    (h : InEngine s p t r) (hc : requestCheck t (requestKind r) s = some c) :
    exec (completion r) s = .next (concluded t (requestKind r) c .empty s) := by
  have hd : s.due = [] := h.settled
  have hp : s.profile? = some p := by simp [State.profile?, h.running]
  cases r <;>
    simp only [completion, exec, execPlace, execRelease, execWithdraw, execQuerySpan, execQueryMap, execReady, execRefuse, settleDue,
      hd, List.foldl_nil, completeFor, h.inHand, hp, h.inSlot, hc] <;> rfl

/-- The hand-overs of a report's evaluation, tenant by tenant, are `handOverAll`'s. -/
theorem handOver_foldl (p : Profile) (blamed judged : Tenant → Bool) (ts : List Tenant) (s : State) (isolated : List Tenant) :
    ts.foldl (fun (s, l) t =>
        let (s', now) := handOver p t (blamed t) (judged t) s
        (s', if now then l ++ [t] else l)) (s, isolated)
      = ((handOverAll p blamed judged ts s).1, isolated ++ (handOverAll p blamed judged ts s).2) := by
  induction ts generalizing s isolated with
  | nil => simp [handOverAll]
  | cons t ts ih =>
    simp only [List.foldl_cons, ih, handOverAll]
    split <;> simp

end Sys2Proof.Laws
end

