-- ==== Sys2Proof/Tests/Slice0.lean ====
section
/-! SUPPORT. Tests: ill-formed operands refused, frames decoded from bytes written out from the spec, small effects of single
commands with the numbers of the manual's own examples, and for each statement with hypotheses a state that meets them. -/

set_option Elab.async false

namespace Sys2Proof.Tests

open Machine Safety

/-! ### The plant and the states the tests begin from -/

/-- An admission rule of the example profile. -/
def rule (d : Direction) (lo hi : Nat) (cap : Option Int) (tag : BitVec 16) (act : RuleAction) : AdmissionRule :=
  { enabled := true, direction := some d, codeValue := 0, codeMask := 0, lo, hi, minWidth := 8, fixedWidth := 0, cap
    priority := none, tag, action := act }

/-- The example profile of chapter 1 in the parts the tests use (dsLo 160, limits −2 and 8, guards, budgets, StrayReach 2). -/
def plant : Profile :=
  { usTop := 129, dsLo := 160, dsBaseLim := -2, tiltSpan := 8, usLim := 0, usBudget := 300000, dsBudget := 900000
    guards := ⟨1, 2, 3, 1, 2, 1⟩, frameSource := .external, framePeriod := 200, triggerSource := .both
    cadenceFrames := 4096, prepareFrames := 8, settleFrames := 3, rankMode := .byPriority, enforcement := .confine
    overMargin := 3, strayLimit := -20, strayReach := 2, recoveryMode := .onRequest, recoveryFrames := 40
    tenants := #v[⟨true, .data, 40, 300, 16, 4, true, 0, 2⟩, ⟨true, .video, 0, 400, 16, 0, false, 2, 1⟩,
      ⟨true, .voice, 20, 60, 24, 2, false, 3, 1⟩, ⟨false, .data, 60, 500, 16, 4, true, 0, 0⟩]
    regions := [⟨4, 129, .up, .opened, #v[.request, .none, .request, .request]⟩,
      ⟨160, 299, .down, .closed, #v[.observe, .request, .observe, .observe]⟩,
      ⟨300, 799, .down, .opened, #v[.request, .request, .request, .request]⟩,
      ⟨800, 1199, .down, .opened, #v[.anchor, .observe, .observe, .anchor]⟩]
    rules := [rule .down 300 1199 (some 1) 0x10 .allow, rule .up 4 129 none 1 .allow, rule .down 160 799 none 0x310 .allow,
      rule .up 4 129 none 2 .deny] }

/-- RUNNING with the plant, the start-up image applied and every port ACTIVE. -/
def ready : State :=
  allTenants.foldl (fun s t => setMode t .active s)
    { State.reset with device := .running plant, cycle := .quiet, cadence := 4096 }

/-- As `ready`, before the start-up image is acknowledged: in WAIT_ACK. -/
def starting : State :=
  { ready with cycle := .initial, link := .waitAck, inFlight := some ⟨⟨0, .startUp, 0, []⟩, 1⟩, sendNumber := 1
               ackWait := some 0 }

/-- Port `t`'s request in the engine. -/
def evaluating (t : Tenant) (r : EngineRequest) (s : State) : State :=
  { s.setPort t { s.port t with request := some r } with inHand := some (.port t) }

/-- What a request asked for. -/
def asked (t : Tenant) (d : Direction) (lo hi w : Nat) (den : Int) : Asked :=
  { tenant := t, direction := d, placement := .flex, windowLo := lo, windowHi := hi, width := w, density := den, cap := none
    priority := 3, anchored := false, serviceCode := 0, tag := 0, hold := none }

/-- A span as placed. -/
def placed (lo w : Nat) (den : Int) : Placed := ⟨lo, den, w * weight den, false⟩

/-- A LIVE UP span of tenant 0 on granules 10..19 at density 0, in entry 3. -/
def live : Life := .live (asked 0 .up 10 19 10 0) (placed 10 10 0) (some 1)

/-- One span on air, and tenant 1 isolated. -/
def busy : State := (setLife 3 live ready).setRecord 1 ⟨130, true, true, some 40⟩

/-- A PENDING request of tenant 2 in entry 5, at the head of the list, with a sweep step in hand on it. -/
def stepping : State :=
  { setLife 5 (.pending (asked 2 .up 4 129 8 0) .pace (some 1)) ready with
    waitList := [5], sweep := .running (.entry 5) false, inHand := some .sweep }

/-- A batch of one addition of tenant 0 (entry 3) in PREPARING, its answer awaited. -/
def preparing : State :=
  { setLife 3 (.adding (asked 0 .up 10 19 10 0) (placed 10 10 0) 7 false false) ready with
    batch := 7, cycle := .preparing, prepareLeft := some 8, expected := [0], called := [0] }

/-- The same batch in ARMED, its image of the one span acknowledged. -/
def armed : State :=
  { setLife 3 (.adding (asked 0 .up 10 19 10 0) (placed 10 10 0) 7 false false) ready with
    batch := 7, cycle := .armed, link := .acked
    inFlight := some ⟨⟨1, .batch, 7, [⟨0, .up, 10, 10, 0, 0, 0⟩]⟩, 2⟩, sendNumber := 2 }

/-- The next state of a command passes a test. -/
def after (c : Instr) (s : State) (test : State → Bool) : Bool :=
  match exec c s with
  | .next u => test u
  | .fault _ => false
  | .refused _ => false

/-- The code in port `t`'s response slot. -/
def code (t : Tenant) (s : State) : Option ResponseCode := (s.port t).response.map Response.code

/-- A PLACE, FLEX, DOWN, with no service code, hold or wait limit. -/
def flexDown (lo hi w : BitVec 16) (den : Byte) (nowait : Bool) : PlaceFields :=
  ⟨1, 1, lo, hi, w, den, 3, 0, 0, 0, nowait⟩

/-! ### Ill-formed operands -/

theorem test_illformed_malformed : (Instr.malformedFrame 0 [0x01]).WellFormed = false := by decide
theorem test_illformed_fetch : (Instr.fetch 0 0).WellFormed = false := by decide
theorem test_illformed_discard : (Instr.plrxFrameDiscard [0xA5, 0x81]).WellFormed = false := by decide
theorem test_illformed_pulse : (Instr.framePulse false ⟨[.cadence], [.cadence]⟩).WellFormed = false := by decide
theorem test_illformed_countdown :
    (Instr.internalFrameCountdown false ⟨[.settleEnd, .settleEnd], []⟩).WellFormed = false := by decide
theorem test_wellformed_malformed : (Instr.malformedFrame 0 [0x01, 0x00]).WellFormed = true := by decide

/-! ### Bytes to commands -/

/-- The opcode table gives no row any bits. -/
theorem test_no_table_word : decodeTableWord 8 1 = none := rfl

/-- R177's check value of the CRC: the nine bytes of "123456789" give 0x29B1. -/
theorem test_crc : crc16 [0x31, 0x32, 0x33, 0x34, 0x35, 0x36, 0x37, 0x38, 0x39] = 0x29B1 := by decide +kernel

/-- A PLACE frame written out by R175: FLEX, DOWN, window 400..799, width 60, density 0, priority 3, code 0x0207, no hold,
wait limit 300. -/
theorem test_decode_place :
    Decode.portFrame 1 [0x03, 0x01, 0x01, 0x01, 0x90, 0x03, 0x1F, 0x00, 0x3C, 0x00, 0x03, 0x02, 0x07, 0x00, 0x00, 0x01, 0x2C, 0x00]
      = .requestAccepted 1 (.place ⟨1, 1, 400, 799, 60, 0, 3, 0x0207, 0, 300, false⟩) := by decide +kernel
theorem test_decode_read_log : Decode.portFrame 0 [0x0B, 0x03, 0xFF, 0x08] = .readLog 0 1023 8 := by decide +kernel
theorem test_decode_release : Decode.portFrame 3 [0x04, 0x35, 0x07] = .requestAccepted 3 (.release ⟨53, 7⟩) := by
  decide +kernel
theorem test_decode_short : Decode.portFrame 0 [0x04, 0x35] = .malformedFrame 0 [0x04, 0x35] := by decide +kernel
theorem test_decode_fetch : Decode.portFrame 0 [0x0F, 0, 0] = .fetch 0 3 := by decide +kernel

/-- PLRX: a stray byte, an ACK of epoch 41, send 120, and a start byte with an unknown type (R177). -/
theorem test_plrx :
    Decode.plrxCommands ([0x00] ++ Decode.answerBytes ackType 41 120 ++ [0xA5, 0x00])
      = [.ack 41 120, .plrxFrameDiscard [0xA5, 0x00]] := by decide +kernel

/-! ### Numbers of the manual's examples (chapter 3) -/

/-- The limit at 482 is −2 + floor(8 × 322 / 1039) = 0, and the load of 60 granules at 0 is 61,440. -/
theorem test_limit : densityLimit plant .down 482 = 0 ∧ 60 * weight 0 = 61440 := by decide
/-- The weights at the ends of the scale (R70). -/
theorem test_weights : weight (-8) = 162 ∧ weight 1 = 1289 ∧ weight 6 = 4077 := by decide
/-- A CLOSED region the tenant may not use is not its own to ask for: NO_RIGHT, not CLOSED (R59). -/
theorem test_no_right : regionRefusal plant { asked 2 .down 200 207 8 0 with placement := .exact } = some .noRight := by
  decide +kernel
theorem test_closed : regionRefusal plant (asked 1 .down 200 299 8 0) = some .closed := by decide +kernel
/-- A VOICE span keeps a guard of 3 from a DATA span: 19 + 3 + 1 (R6, R66). -/
theorem test_guard : placement plant busy (asked 2 .up 4 129 8 0) = some 23 := by decide +kernel

/-! ### Single commands -/

theorem test_reset : after .deviceReset busy (fun u => decide (u.onAir = []) && decide (u.device = .starting none)) = true := by
  decide +kernel
theorem test_rst_release : after .rstRelease State.reset (fun u => decide (u.device = .starting (some .afterDeviceReset))) = true := by
  decide +kernel
/-- A reload with an image in flight hands over CANCEL and keeps the send number (chapter 6's example). -/
theorem test_reload : after .reload starting (fun u =>
    decide (u.transmit = [.cancel 0 1]) && decide (u.sendNumber = 1) && decide (u.cycle = .initial)) = true := by decide +kernel
/-- A blank memory ends in FAULT with LENGTH (R19, R20). -/
theorem test_blank_load : after (.loadComplete []) { State.reset with device := .starting (some .afterDeviceReset) }
    (fun u => decide (u.device = .fault .length)) = true := by decide +kernel
theorem test_frame : after (.framePulse false {}) busy (fun u =>
    decide (u.frameCounter = 1) && decide (u.life 3 = .retiring (asked 0 .up 10 19 10 0) (placed 10 10 0) false)
      && decide ((u.port 0).queue.length = 1)) = true := by decide +kernel
/-- An external source ignores the internal countdown (R13, R14). -/
theorem test_countdown_ignored : after (.internalFrameCountdown false {}) busy (fun u => decide (u.frameCounter = 0)) = true := by
  decide +kernel
/-- The commit with an acknowledged image: APPLY, the addition on air, SETTLING with 3 frames left (R115, R116). -/
theorem test_commit : (let u := cycleTest plant .armed false armed
    decide (u.epoch = 1) && decide (u.cycle = .settling) && decide (u.settleLeft = some 3)
      && decide (u.transmit = [.apply 1 2]) && u.isChanged 19 && !u.isChanged 20) = true := by decide +kernel
theorem test_commit_holdoff : (cycleTest plant .armed true armed).epoch = 0 := by decide +kernel
/-- An expiry left late is taken by its own command, after the frame event (R103). -/
theorem test_hold_late : after (.framePulse false { late := [.hold 3] }) busy (fun u =>
    decide (u.due = [.hold 3]) && after (.holdExpiry 3) u (fun v => decide (v.due = []) && (v.life 3 != u.life 3))) = true := by
  decide +kernel
theorem test_cadence : after .cadenceExpiry { ready with cadence := 0, due := [.cadence] } (fun u =>
    u.trigger && decide (u.cadence = 4096)) = true := by decide +kernel
theorem test_timeout : after .prepareTimeout { preparing with prepareLeft := some 0, due := [.prepareTimeout] } (fun u =>
    decide (u.cycle = .quiet) && decide ((u.record 0).counter = 8) && decide (u.expected = [])
      && decide (u.life 3 = .staged (asked 0 .up 10 19 10 0) (placed 10 10 0))) = true := by decide +kernel
theorem test_settle_end : after .settleEnd
    { setLife 3 (.cooling (asked 0 .up 10 19 10 0) (placed 10 10 0) false) ready with
      cycle := .settling, settleLeft := some 0, changed := [⟨10, 10⟩], due := [.settleEnd] }
    (fun u => decide (u.life 3 = .free) && decide (u.cycle = .quiet) && decide (u.changed = [])) = true := by decide +kernel
theorem test_lapse : after (.lapse 5)
    { setLife 5 (.pending (asked 2 .up 4 129 8 0) .pace (some 0)) ready with waitList := [5], due := [.lapse 5] }
    (fun u => decide (u.life 5 = .free) && decide (u.waitList = []) && decide ((u.port 2).queue.length = 1)) = true := by
  decide +kernel
theorem test_pace : after (.paceExpiry 2) { stepping with due := [.pace 2] } (fun u =>
    decide (u.sweep = .running (.entry 5) true)) = true := by decide +kernel
/-- The fourth counted frame event: CANCEL, and the start-up image sent again with the next number (R127, R129). -/
theorem test_ack_wait : after .ackWaitExpiry { starting with ackWait := some 4, due := [.ackWait] } (fun u =>
    decide (u.transmit.length = 2) && decide (u.sendNumber = 2) && decide (u.link = .sending)) = true := by decide +kernel
theorem test_recovery_on_request : after (.recoveryCountdownExpiry 1)
    { busy.setRecord 1 ⟨133, true, true, some 0⟩ with due := [.recovery 1] }
    (fun u => (u.record 1).isolated) = true := by decide +kernel
theorem test_malformed : after (.malformedFrame 0 [0x01, 0x00]) ready (fun u =>
    (u.port 0).malformed && decide ((u.port 0).sdo = [0, 0])) = true := by decide +kernel
theorem test_collided : after (.requestAccepted 0 (.ready 1)) (evaluating 0 (.ready 7) ready) (fun u =>
    (u.port 0).collided && decide ((u.port 0).request = some (.ready 7))) = true := by decide +kernel
theorem test_collided_mode : after (.mode 0 0) (evaluating 0 (.ready 7) ready) (fun u =>
    (u.port 0).collided && decide ((u.port 0).mode = .active) && decide ((u.port 0).sdo = [0, 0])) = true := by decide +kernel
/-- Round the ring from port 3: port 3 has nothing, the sweep has no step, port 1 is granted (R49). -/
theorem test_grant : after .arbiterGrant
    { ready.setPort 1 { ready.port 1 with request := some (.ready 7) } with arbiter := .port 3 }
    (fun u => decide (u.inHand = some (.port 1)) && decide (u.arbiter = .port 2)) = true := by decide +kernel
/-- A grant is clamped by the limit at its placement, 300: −2 + floor(8 × 140 / 1039) = −1 (R68, R69). -/
theorem test_place : after .place (evaluating 0 (.place (flexDown 300 799 16 1 false)) ready) (fun u =>
    decide (code 0 u = some .granted) && decide (u.load.down = 16 * 813) && decide (u.pace[0] = 4)
      && decide ((u.entry 0).generation = 1)) = true := by decide +kernel
/-- The port's mode is read at the completion (R53). -/
theorem test_place_paused : after .place (evaluating 0 (.place (flexDown 300 799 16 1 false)) (setMode 0 .paused ready)) (fun u =>
    decide (code 0 u = some .paused) && decide ((u.entry 0).generation = 0)) = true := by decide +kernel
theorem test_place_short : after .place (evaluating 0 (.place (flexDown 300 799 7 1 false)) ready) (fun u =>
    decide (code 0 u = some .short) && decide ((u.entry 0).generation = 0)) = true := by decide +kernel
theorem test_release : after .release (evaluating 0 (.release ⟨3, 0⟩) busy) (fun u =>
    decide (code 0 u = some .ok) && decide (u.life 3 = .retiring (asked 0 .up 10 19 10 0) (placed 10 10 0) false)) = true := by
  decide +kernel
theorem test_release_other : after .release (evaluating 2 (.release ⟨3, 0⟩) busy) (fun u =>
    decide (code 2 u = some .gone)) = true := by decide +kernel
theorem test_withdraw : after .withdraw (evaluating 2 (.withdraw ⟨5, 0⟩) { stepping with inHand := none }) (fun u =>
    decide (code 2 u = some .ok) && decide (u.sweep = .idle) && decide (u.entryCount[2] = 0)) = true := by decide +kernel
theorem test_query_span : after .querySpan (evaluating 0 (.querySpan ⟨3, 0⟩) busy) (fun u =>
    decide (code 0 u = some .ok)) = true := by decide +kernel
/-- Granules 9..12 for tenant 2: FREE, then TAKEN (R46). -/
theorem test_query_map : after .queryMap (evaluating 2 (.queryMap 9 4) busy) (fun u =>
    decide (((u.port 2).response.map Response.body) = some (.map [.free, .taken, .taken, .taken]))) = true := by decide +kernel
/-- READY empties the expected set: ARMED, with an image of the one span (R105, R108, R111). -/
theorem test_ready : after .ready (evaluating 0 (.ready 7) preparing) (fun u =>
    decide (u.cycle = .armed) && decide (u.inFlight.map (fun f => f.image.spans.length) = some 1)
      && decide (u.epoch = 0)) = true := by decide +kernel
theorem test_ready_stale : after .ready (evaluating 0 (.ready 6) preparing) (fun u => decide (code 0 u = some .stale)) = true := by
  decide +kernel
/-- REFUSE: the charge of 2, the batch comes to nothing, ABANDONED to the called tenant (R106, R108). -/
theorem test_refuse : after .refuse (evaluating 0 (.refuse 7) preparing) (fun u =>
    decide (u.cycle = .quiet) && decide ((u.record 0).counter = 2)
      && decide ((u.port 0).queue.map Notice.body = [.abandoned 7 none])) = true := by decide +kernel
theorem test_sweep_step : after .sweepStep stepping (fun u =>
    decide (u.waitList = []) && decide (u.sweep = .idle) && decide (u.held[2].up = 8) && decide (u.pace[2] = 2)) = true := by
  decide +kernel
theorem test_sweep_paused : after .sweepStep (setMode 2 .paused stepping) (fun u =>
    decide (u.waitList = [5]) && decide (u.sweep = .idle)) = true := by decide +kernel
/-- A port sleeps while RST_n is asserted (R172). -/
theorem test_status : after (.status 0) State.reset (fun u => (u.port 0).response.isNone) = true := by decide +kernel
/-- STATUS outside RUNNING (R24, R171). -/
theorem test_status_fault : after (.status 2) { State.reset with device := .fault .crc } (fun u =>
    decide (code 2 u = some .ok) && decide ((u.port 2).sdo = [0])) = true := by decide +kernel
theorem test_mode_disabled : after (.mode 3 1) (setMode 3 .offline ready) (fun u => decide (code 3 u = some .disabled)) = true := by
  decide +kernel
theorem test_mode_withdraws : after (.mode 0 1) busy (fun u =>
    decide (code 0 u = some .ok) && u.trigger
      && decide (u.life 3 = .retiring (asked 0 .up 10 19 10 0) (placed 10 10 0) true)) = true := by decide +kernel
theorem test_trigger : after (.trigger 0) ready (fun u => u.trigger && decide (code 0 u = some .ok)) = true := by decide +kernel
theorem test_trigger_refused : after (.trigger 1) ready (fun u => !u.trigger && decide (code 1 u = some .noTrigger)) = true := by
  decide +kernel
theorem test_read_log : after (.readLog 0 0 9) ready (fun u => decide (code 0 u = some .badField)) = true := by decide +kernel
theorem test_recover : after (.recover 1) (busy.setRecord 1 ⟨133, true, true, some 0⟩) (fun u =>
    decide ((u.port 1).mode = .config) && decide ((u.record 1).counter = 0)) = true := by decide +kernel
theorem test_recover_early : after (.recover 1) busy (fun u => decide (code 1 u = some .tooEarly)) = true := by decide +kernel
theorem test_read_notice : after (.readNotice 0) ready (fun u => decide (code 0 u = some .empty)) = true := by decide +kernel
/-- Bits 11 to 15 of the mask are ignored (R175). -/
theorem test_mask : after (.setNoticeMask 0 0xF801) ready (fun u => decide ((u.port 0).mask = 1)) = true := by decide +kernel
/-- A response without a body is fetched whole by 8 bytes (R170, R176). -/
theorem test_fetch : after (.fetch 0 8)
    (ready.setPort 0 { ready.port 0 with response := some ⟨0x08, .stale, .empty⟩ }) (fun u =>
    decide ((u.port 0).response = none) && decide ((u.port 0).sdo = [0, 2, 2, 0, 0x08, 0x23, 0, 0])) = true := by decide +kernel
theorem test_fetch_short : after (.fetch 0 7)
    (ready.setPort 0 { ready.port 0 with response := some ⟨0x08, .stale, .empty⟩ }) (fun u =>
    (u.port 0).response.isSome) = true := by decide +kernel
theorem test_chip_select : after (.chipSelectAsserted 0) ready (fun u =>
    decide ((u.port 0).underWay = some ⟨.active, false, 0, none⟩)) = true := by decide +kernel
theorem test_port_reset : after (.portReset 0) busy (fun u =>
    (u.port 0).prst && decide ((u.port 0).mode = .offline)
      && decide (u.life 3 = .retiring (asked 0 .up 10 19 10 0) (placed 10 10 0) true)) = true := by decide +kernel
theorem test_port_reset_release : after (.portResetRelease 0) (ready.setPort 0 { resetPort with prst := true }) (fun u =>
    decide (u.port 0 = resetPort)) = true := by decide +kernel
theorem test_image_send_end : after .imageSendEnd
    { starting with transmit := [.image ⟨⟨0, .startUp, 0, []⟩, 1⟩], link := .sending, ackWait := none }
    (fun u => decide (u.link = .waitAck) && decide (u.ackWait = some 0) && decide (u.pltx.length = 14)) = true := by
  decide +kernel
theorem test_transmit_done : after .transmitFrameDone { ready with transmit := [.apply 41 120] } (fun u =>
    decide (u.transmit = []) && decide (u.pltx.take 7 = [0xA5, 0x02, 0, 0, 0, 41, 120])) = true := by decide +kernel
theorem test_ack : after (.ack 0 1) starting (fun u => decide (u.link = .acked)) = true := by decide +kernel
theorem test_ack_late : after (.ack 0 2) starting (fun u => decide (u.link = .waitAck) && decide (u.ackWait = some 0)) = true := by decide +kernel
/-- A NAK in ACKED abandons the batch without CANCEL (R114, R126). -/
theorem test_nak : after (.nak 1 2) armed (fun u =>
    decide (u.cycle = .quiet) && u.trigger && decide (u.transmit = [])
      && decide (u.life 3 = .staged (asked 0 .up 10 19 10 0) (placed 10 10 0))) = true := by decide +kernel
theorem test_plrx_discard : after (.plrxFrameDiscard [0xA5, 0x00]) starting (fun u => decide (u.link = .waitAck)) = true := by
  decide +kernel
theorem test_transfer_begin : after .reportTransferBegin ready (fun u => decide (u.transfer = some true)) = true := by
  decide +kernel
/-- A report of two granules, +35 and not measured, is taken as +20 and nothing (R133). -/
theorem test_report : after (.measurementReport (withCrc [0x00, 0x0A, 0x02, 35, 127]) false) ready (fun u =>
    decide (u.reports = [⟨10, [some 20, none]⟩])) = true := by decide +kernel
theorem test_report_begin : after .reportEvaluationBegin { busy with reports := [⟨10, [some 20]⟩] } (fun u => u.evaluating) = true := by
  decide +kernel
/-- +4 on a span granted 0 with OverMargin 3: an OVERPOWER record of excess 1, and a charge of 8 (R138, R144). -/
theorem test_report_evaluation : after .reportEvaluation { busy with reports := [⟨10, [some 4, some 3]⟩], evaluating := true } (fun u =>
    decide (u.log.map (fun v => (v.kind, v.tenant, v.first, v.count, v.worst)) = [(.overpower, some 0, 10, 1, 1)])
      && decide ((u.record 0).counter = 8) && decide (u.logSeq = 1) && !u.evaluating) = true := by decide +kernel
/-- A stray at 21 lies 2 from tenant 0's span and is its; at 22 it is no one's (R139). -/
theorem test_stray : strayParty busy.onAir 2 21 = some 0 ∧ strayParty busy.onAir 2 22 = none := by decide +kernel

/-! ### States that meet the hypotheses of the statements, clause by clause -/

/-- As `ready`, port `t` in mode `m`. -/
def inMode (t : Tenant) (m : PortMode) : State := setMode t m ready

/-- As `ready`, tenant 0 isolated with this countdown. -/
def isolatedWith (countdown : Option Nat) : State := ready.setRecord 0 ⟨128, true, true, countdown⟩

/-- A profile image in parts: its header (86 bytes, the CRC of what follows), no regions and no rules, the plant section, and four
records of a DATA tenant with an entry quota of 16 (R178). -/
def imageHead : List Byte := [0x3C, 0, 86, 0xa8, 0x54]
def imagePlant0 : List Byte := [0, 0, 0, 129, 0, 160, 254, 8, 0, 4]
def imagePlant1 : List Byte := [147, 224, 13, 187, 160, 1, 2, 3, 1]
def imagePlant2 : List Byte := [2, 1, 0, 0, 0, 2, 16, 0, 8]
def imagePlant3 : List Byte := [3, 0, 3, 3, 236, 2, 1, 0, 40]
def imageTenant : List Byte := [1, 0, 0, 40, 1, 44, 16, 4, 1, 0, 0]
def image : List Byte :=
  imageHead ++ (imagePlant0 ++ (imagePlant1 ++ (imagePlant2 ++ (imagePlant3
    ++ (imageTenant ++ (imageTenant ++ (imageTenant ++ imageTenant)))))))

/-- A load in progress. -/
def loading : State := { State.reset with device := .starting (some .afterDeviceReset) }

theorem image_crc : crcOk image = true := by
  have h0 : imagePlant0.foldl crcByte 0xffff#16 = 0x0cf7#16 := by decide +kernel
  have h1 : imagePlant1.foldl crcByte 0x0cf7#16 = 0x2b72#16 := by decide +kernel
  have h2 : imagePlant2.foldl crcByte 0x2b72#16 = 0x325a#16 := by decide +kernel
  have h3 : imagePlant3.foldl crcByte 0x325a#16 = 0x9c4e#16 := by decide +kernel
  have h4 : imageTenant.foldl crcByte 0x9c4e#16 = 0xa65a#16 := by decide +kernel
  have h5 : imageTenant.foldl crcByte 0xa65a#16 = 0x6283#16 := by decide +kernel
  have h6 : imageTenant.foldl crcByte 0x6283#16 = 0xd90d#16 := by decide +kernel
  have h7 : imageTenant.foldl crcByte 0xd90d#16 = 0xa854#16 := by decide +kernel
  have h : crc16 (image.drop 5) = 0xa854#16 := by
    simp only [image, imageHead, List.cons_append, List.nil_append, List.drop_succ_cons, List.drop_zero, crc16, List.foldl_append,
      h0, h1, h2, h3, h4, h5, h6, h7]
  unfold crcOk
  rw [h]
  decide +kernel

/-- R20's checks pass on the image. -/
theorem image_passes : ∃ p, checkImage ([] ++ readImage image) = .ok p := by
  have h0 : [] ++ readImage image = image := by decide +kernel
  have h1 : lengthOk image = true := by decide +kernel
  have h3 : (match readProfile image with
      | some p => directionsOk p && regionsOk p && ruleBlocksOk p && framePeriodOk p
      | none => false) = true := by decide +kernel
  rw [h0]
  cases hp : readProfile image with
  | none => simp [hp] at h3
  | some p =>
    simp only [hp, Bool.and_eq_true] at h3
    exact ⟨p, by simp [checkImage, h1, image_crc, hp, h3]⟩

theorem witness_StepRunsFrontCommand :
    { ready with pending := [.trigger 0] }.pending = [.trigger 0] ∧ ready.pending = [] := ⟨rfl, by decide +kernel⟩
theorem witness_EveryCommandCompletes :
    busy.device = .running plant ∧ isExpiry .arbiterGrant = false ∧ Instr.arbiterGrant ≠ .deviceReset :=
  ⟨by decide +kernel, rfl, by decide⟩
theorem witness_LoadBegins : Settled State.reset ∧ State.reset.device = .starting none
    ∧ Settled ready ∧ ready.device ≠ .starting none :=
  ⟨rfl, rfl, (by decide +kernel : ready.due = []), by decide +kernel⟩
theorem witness_LoadCompletes :
    Settled loading ∧ loading.device = .starting (some .afterDeviceReset) ∧ loading.staged = []
    ∧ (∃ p, checkImage (loading.staged ++ readImage image) = .ok p)
    ∧ (∃ r, checkImage (loading.staged ++ readImage []) = .error r)
    ∧ { loading with transmit := [.cancel 1 1] }.transmit ≠ [] := by
  have h : lengthOk (loading.staged ++ readImage []) = false := by decide +kernel
  exact ⟨rfl, rfl, rfl, image_passes, ⟨.length, by simp [checkImage, h]⟩, by decide⟩
theorem witness_LoadedProfileIsLegal : ∃ (bytes : List Byte) (p : Profile), checkImage bytes = .ok p :=
  image_passes.elim fun p h => ⟨_, p, h⟩

/-- The four lines of R162's table, each met. -/
theorem witness_NoticeIsDisposedOf :
    ((resetPort.mode = .offline ∧ resetPort.prst = false ∧ (NoticeBody.committed 0 0).kindCode = 2)
    ∧ (NoticeBody.recovered .auto .auto .config).kindCode = 11
    ∧ (ready.port 0).prst = false ∧ (ready.port 0).mode ≠ .offline ∧ (ready.port 0).queue.length < 16
    ∧ (ready.port 0).mask.getLsbD 1 = true)
    ∧ (0#11).getLsbD 1 = false ∧ (List.replicate 16 (⟨0, .committed 0 0⟩ : Notice)).length ≥ 16 := by
  refine ⟨⟨?_, ?_, ?_⟩, ?_⟩ <;> decide +kernel

theorem accepting : Accepting ready 0 := ⟨(by decide +kernel : ready.due = []), by decide +kernel, by decide +kernel⟩
theorem ready_running : ready.device = .running plant := by decide +kernel
theorem ready_trusted : (ready.record 0).isolated = false := by decide +kernel

theorem witness_StatusAnswers : Accepting ready 0 := accepting
theorem witness_ModeChanges :
    (∀ m : PortMode, Accepting (inMode 0 m) 0 ∧ (inMode 0 m).device = .running plant
      ∧ ((inMode 0 m).record 0).isolated = false ∧ ((inMode 0 m).port 0).mode = m)
    ∧ 3 < (4 : Byte).toNat ∧ (plant.tenant 0).enabled = true ∧ (plant.tenant 3).enabled = false :=
  ⟨fun _ => ⟨⟨rfl, rfl, rfl⟩, rfl, rfl, rfl⟩, by decide, by decide, by decide⟩

/-- Tenant 0 may trigger, tenant 1 may not. -/
theorem witness_TriggerCalls :
    Taking ready plant 0 .trigger ∧ (plant.tenant 0).mayTrigger = true ∧ plant.triggerSource = .both
    ∧ Taking ready plant 1 .trigger ∧ (plant.tenant 1).mayTrigger = false :=
  ⟨⟨accepting, ready_running, ready_trusted, by decide +kernel⟩, by decide, by decide,
    ⟨⟨accepting.settled, by decide +kernel, by decide +kernel⟩, ready_running, by decide +kernel, by decide +kernel⟩, by decide⟩

/-- A log of two records, 0xFFFF and 0: `from` at the next sequence 1, at a held record, and at one no longer held. -/
theorem witness_LogIsRead :
    let v (n : BitVec 16) : Violation := ⟨n, 0, 0, none, .stray, 0, 1, 1⟩
    let s : State := { ready with log := [v 0xFFFF, v 0], logSeq := 1 }
    Accepting s 0 ∧ s.device = .running plant ∧ (s.port 0).mode ≠ .offline
    ∧ s.log = [v 0xFFFF] ++ v 0 :: [] ∧ (∀ u ∈ [v 0xFFFF], u.seq ≠ 0) ∧ (v 0).seq ≠ s.logSeq ∧ (∀ u ∈ s.log, u.seq ≠ 7)
    ∧ (0 : Byte).toNat = 0 ∧ 8 < (9 : Byte).toNat ∧ 1 ≤ (8 : Byte).toNat ∧ (8 : Byte).toNat ≤ 8 :=
  ⟨⟨accepting.settled, accepting.awake, accepting.empty⟩, ready_running, by decide +kernel, rfl, by decide, by decide,
    by decide, by decide, by decide, by decide, by decide⟩
theorem witness_LogIsRead_isolated : Accepting (isolatedWith none) 0 ∧ ((isolatedWith none).record 0).isolated = true :=
  ⟨⟨(by decide +kernel : (isolatedWith none).due = []), by decide +kernel, by decide +kernel⟩, by decide +kernel⟩

/-- Not isolated; isolated in the three recovery modes; the countdown run out and not. -/
theorem witness_RecoverAnswers :
    Accepting ready 0 ∧ ready.device = .running plant ∧ (ready.record 0).isolated = false
    ∧ (∀ n, Accepting (isolatedWith n) 0 ∧ ((isolatedWith n).record 0).isolated = true
        ∧ ((isolatedWith n).record 0).recovery = n)
    ∧ plant.recoveryMode = .onRequest ∧ { plant with recoveryMode := .auto }.recoveryMode = .auto
    ∧ { plant with recoveryMode := .latched }.recoveryMode = .latched := by
  refine ⟨accepting, ready_running, ready_trusted, fun n => ⟨⟨rfl, rfl, rfl⟩, rfl, rfl⟩, by decide, rfl, rfl⟩

theorem witness_NoticesAreRead :
    Accepting ready 0 ∧ (ready.port 0).mode ≠ .offline ∧ (ready.port 0).queue = []
    ∧ (let s := issue 0 (.committed 1 1) ready
       Accepting s 0 ∧ (s.port 0).mode ≠ .offline ∧ (s.port 0).queue = [⟨0, .committed 1 1⟩])
    ∧ Taking ready plant 0 .setNoticeMask :=
  ⟨accepting, by decide +kernel, by decide +kernel,
    ⟨⟨(by decide +kernel : (issue 0 (.committed 1 1) ready).due = []), by decide +kernel, by decide +kernel⟩,
      by decide +kernel, by decide +kernel⟩,
    ⟨accepting, ready_running, ready_trusted, by decide +kernel⟩⟩
theorem witness_FetchSends :
    Settled ready ∧ ready.inert 0 = false
    ∧ (let f : FrameUnderWay := ⟨.active, false, 0, some ⟨8, .ok, .empty⟩⟩
       (ready.setPort 0 { ready.port 0 with underWay := some f }).inert 0 = false
       ∧ ((ready.setPort 0 { ready.port 0 with underWay := some f }).port 0).underWay = some f) :=
  ⟨accepting.settled, accepting.awake, by decide +kernel, by decide +kernel⟩

/-- A STATUS frame of two bytes, a frame of unknown kind, a request into an empty slot and into an occupied one. -/
theorem witness_FramesArrive :
    Settled ready ∧ ready.inert 0 = false ∧ passingKind [0x01, 0x00] = none ∧ passingKind [0x7F] = none
    ∧ ([0x01, 0x00].head?.bind kindOfByte).isSome = true ∧ Accepting ready 0 ∧ ready.device = .running plant
    ∧ ((evaluating 0 (.ready 7) ready).port 0).request = some (.ready 7) ∧ Settled (evaluating 0 (.ready 7) ready)
    ∧ (evaluating 0 (.ready 7) ready).inert 0 = false :=
  ⟨accepting.settled, accepting.awake, by decide, by decide, by decide, accepting, ready_running, by decide +kernel,
    (by decide +kernel : (evaluating 0 (.ready 7) ready).due = []), by decide +kernel⟩
theorem witness_PortResetLeaves :
    (∀ m : PortMode, Settled (inMode 0 m) ∧ ((inMode 0 m).port 0).mode = m)
    ∧ Settled (ready.setPort 0 { resetPort with prst := true })
    ∧ ((ready.setPort 0 { resetPort with prst := true }).port 0).prst = true :=
  ⟨fun _ => ⟨rfl, rfl⟩, rfl, rfl⟩

/-- Port `t`'s evaluation is in hand in `ready`. -/
theorem evaluates (r : EngineRequest) : Evaluating (evaluating 0 r ready) plant 0 r :=
  ⟨⟨rfl, rfl, rfl, rfl⟩, rfl, by cases r <;> rfl⟩

theorem witness_RefusedOutright :
    (Accepting loading 0 ∧ loading.deviceState ≠ .running)
    ∧ (Accepting (isolatedWith none) 0 ∧ (isolatedWith none).device = .running plant
        ∧ ((isolatedWith none).record 0).isolated = true)
    ∧ (∀ r, InEngine (evaluating 0 r (isolatedWith none)) plant 0 r
        ∧ ((evaluating 0 r (isolatedWith none)).record 0).isolated = true)
    ∧ (∀ m : PortMode, Accepting (inMode 0 m) 0 ∧ (inMode 0 m).device = .running plant
        ∧ ((inMode 0 m).record 0).isolated = false ∧ ((inMode 0 m).port 0).mode = m)
    ∧ ∀ (m : PortMode) (r : EngineRequest), InEngine (evaluating 0 r (inMode 0 m)) plant 0 r
        ∧ ((evaluating 0 r (inMode 0 m)).record 0).isolated = false ∧ ((evaluating 0 r (inMode 0 m)).port 0).mode = m :=
  ⟨⟨⟨rfl, rfl, rfl⟩, by decide⟩, ⟨⟨rfl, rfl, rfl⟩, rfl, rfl⟩, fun _ => ⟨⟨rfl, rfl, rfl, rfl⟩, rfl⟩,
    fun _ => ⟨⟨rfl, rfl, rfl⟩, rfl, rfl, rfl⟩, fun _ _ => ⟨⟨rfl, rfl, rfl, rfl⟩, rfl, rfl⟩⟩

/-! #### The Span Table and the Plan Engine -/

/-- Entry 3 of `busy` is on air and every other one is free. -/
theorem busy_life (e : EntryIx) : busy.life e = .free ∨ busy.life e = live ∧ e = 3 := by
  revert e
  decide +kernel

/-- The sums agree with the table of `busy`: ten granules of tenant 0 on air. -/
theorem busy_sums : SumsMatch busy := by
  refine ⟨fun d => ?_, fun t d => ?_, fun t => ?_⟩
  · cases d <;> decide +kernel
  · revert t; cases d <;> decide +kernel
  · revert t; decide +kernel
theorem witness_EntryMovesWithItsSums : SumsMatch busy := busy_sums

/-- The arbiter's ring: nothing waits; ports 1 and 3 wait from position 3; the engine is BUSY. -/
theorem witness_ArbiterGrantsRing :
    let s : State := { ready.setPort 1 { ready.port 1 with request := some (.ready 7) } with arbiter := .port 3 }
    Settled s ∧ s.device = .running plant ∧ s.inHand = none ∧ (s.port 1).request.isSome = true
    ∧ (∀ t : Tenant, t ≠ 1 → (s.port t).request.isSome = false) ∧ s.sweep = .idle
    ∧ (evaluating 0 (.ready 7) ready).inHand ≠ none ∧ State.reset.profile? = none := by
  refine ⟨rfl, rfl, rfl, rfl, ?_, rfl, ?_, rfl⟩ <;> decide +kernel

/-- Rules of the plant with ordered ranges, and a request for each outcome: a width of 0, a window past its direction, no
matching rule, a denied code, too narrow, an EXACT span outside the rule, no right, closed, and one admitted. -/
theorem witness_AdmissionDecides :
    (∀ t : Tenant, ∀ r ∈ plant.ruleBlock t, r.lo ≤ r.hi)
    ∧ (let code (t : Tenant) (f : PlaceFields) : Option ResponseCode :=
        match admission plant t f with | .ok _ => none | .error c => some c
       code 0 (flexDown 300 799 0 1 false) = some .badField ∧ code 0 (flexDown 100 799 16 1 false) = some .badSpan
       ∧ code 0 (flexDown 160 299 16 1 false) = some .noRule ∧ code 3 (flexDown 160 299 16 1 false) = some .noRule
       ∧ code 2 ⟨0, 1, 4, 129, 8, 0, 3, 0, 0, 0, false⟩ = some .denied
       ∧ code 0 (flexDown 300 799 7 1 false) = some .short ∧ code 2 (flexDown 160 299 16 1 false) = some .noRule
       ∧ code 1 (flexDown 160 299 16 1 false) = some .closed ∧ code 1 (flexDown 300 799 16 1 false) = none
       ∧ code 0 (flexDown 300 799 16 1 false) = none) := by
  refine ⟨?_, ?_⟩ <;> decide +kernel

/-- The request of `flexDown 300 799 16 1` as tenant 0's first rule admits it, and as it was asked. -/
def ask (nowait : Bool) : PlaceAsk := ⟨.down, .flex, 300, 799, 16, 1, 3, 0, none, none, nowait⟩
def admitted : Asked := { asked 0 .down 300 799 16 1 with cap := some 1, tag := 0x10 }

theorem admits (nowait : Bool) : admission plant 0 (flexDown 300 799 16 1 nowait) = .ok (ask nowait, admitted) := by
  cases nowait <;> decide +kernel

/-- Tenant 0's PLACE in the engine of a state like `ready`. -/
def placing (nowait : Bool) (s : State) : State := evaluating 0 (.place (flexDown 300 799 16 1 nowait)) s

/-- The plant with a DOWN quota of tenant 0 and a DOWN budget. -/
def tight (quota budget : Nat) : Profile :=
  { plant with dsBudget := budget, tenants := plant.tenants.set 0 { plant.tenant 0 with downQuota := quota } }

theorem admits_tight (q b : Nat) (nowait : Bool) :
    admission (tight q b) 0 (flexDown 300 799 16 1 nowait) = .ok (ask nowait, admitted) := admits nowait

/-- With the profile `tight q b`, entry 0 is the FREE entry of lowest index for the request. -/
theorem allocates (q b : Nat) (nowait : Bool) (list : List EntryIx) (pace : Nat) :
    Allocating (placing nowait { ready with device := .running (tight q b), waitList := list, pace := #v[pace, 0, 0, 0] })
      (tight q b) 0 (flexDown 300 799 16 1 nowait) (ask nowait) admitted 0 :=
  { settled := rfl, running := rfl, inHand := rfl, inSlot := rfl, notIsolated := rfl, allowed := rfl
    admitted := admits_tight q b nowait, isFree := rfl, lowest := fun x h => absurd h (Nat.not_lt_zero _)
    hasPlace := by show (0 : Nat) < 16; decide }

/-- A refused request, a full table, a full entry quota, and a width above the quota. -/
theorem witness_PlaceRefusals :
    Evaluating (evaluating 0 (.place (flexDown 300 799 0 1 false)) ready) plant 0 (.place (flexDown 300 799 0 1 false))
    ∧ (match admission plant 0 (flexDown 300 799 0 1 false) with | .error c => some c | .ok _ => none) = some .badField
    ∧ (∀ e : EntryIx, { ready with table := Vector.replicate 256 ⟨1, live⟩ }.life e ≠ .free)
    ∧ (plant.tenant 0).entryQuota ≤ { ready with entryCount := #v[16, 0, 0, 0] }.entryCount[0]
    ∧ (∃ s, Allocating s (tight 15 900000) 0 (flexDown 300 799 16 1 false) (ask false) admitted 0)
    ∧ ((tight 15 900000).tenant 0).quota admitted.direction < admitted.width := by
  refine ⟨evaluates _, by decide, fun e => by simp [State.life, State.entry, live], by decide, ⟨_, allocates 15 900000 false [] 0⟩, by decide +kernel⟩

/-- Every fit check passes with placement 300. -/
theorem witness_PlaceGranted :
    ∃ s, Allocating s (tight 300 900000) 0 (flexDown 300 799 16 1 false) (ask false) admitted 0
      ∧ FitsAt (tight 300 900000) s admitted 300 :=
  ⟨_, allocates 300 900000 false [] 0, ⟨by decide +kernel, by decide +kernel, by decide +kernel, by decide +kernel⟩⟩

/-- Each fit check fails first for some state, with NOWAIT, with room on the list, and with a full list. -/
theorem witness_PlaceWaits : ∀ nowait : Bool, ∀ list ∈ [[], (List.finRange 256).take 64],
    (let s := placing nowait { ready with
        device := .running (tight 300 900000), waitList := list, pace := #v[1, 0, 0, 0] }
     Allocating s (tight 300 900000) 0 (flexDown 300 799 16 1 nowait) (ask nowait) admitted 0
     ∧ FitFails (tight 300 900000) s admitted .pace)
    ∧ (let s := placing nowait { ready with
        device := .running (tight 300 13007), waitList := list, pace := #v[0, 0, 0, 0] }
     Allocating s (tight 300 13007) 0 (flexDown 300 799 16 1 nowait) (ask nowait) admitted 0
     ∧ FitFails (tight 300 13007) s admitted .load)
    ∧ admitted.width ≤ ((tight 300 900000).tenant 0).quota admitted.direction := by
  intro nowait list _
  refine ⟨⟨allocates _ _ _ _ _, Nat.one_pos⟩, ⟨allocates _ _ _ _ _, rfl, by show 0 + 16 ≤ 300; decide, 300, ?_, ?_⟩, ?_⟩
  · cases nowait <;> rfl
  · show (tight 300 13007).budget .down < 0 + 16 * weight (grantedDensity (tight 300 13007) admitted 300)
    decide +kernel
  · decide +kernel
theorem witness_PlaceWaits_room :
    (let s := placing false { ready with held := Vector.replicate 4 ⟨0, 285⟩ }
     s.pace[admitted.tenant] = 0 ∧ FitFails plant s admitted .quota)
    ∧ (let s := placing false { ready with table := ready.table.set 9 ⟨1, .staged (asked 0 .down 300 799 500 0) (placed 300 500 0)⟩ }
       FitFails plant s admitted .room) := by
  refine ⟨⟨by decide +kernel, by decide +kernel, by decide +kernel⟩, by decide +kernel, by decide +kernel, by decide +kernel⟩
theorem witness_RefusedPlaceLeavesNoTrace :
    InEngine (evaluating 0 (.place (flexDown 300 799 7 1 false)) ready) plant 0 (.place (flexDown 300 799 7 1 false))
    ∧ after .place (evaluating 0 (.place (flexDown 300 799 7 1 false)) ready)
        (fun u => decide (code 0 u = some .short)) = true :=
  ⟨(evaluates _).toInEngine, by decide +kernel⟩

/-- The only entry of `busy` that occupies granules is entry 3. -/
theorem busy_occupies (e : EntryIx) (h : (busy.life e).occupies? ≠ none) : e = 3 := by
  rcases busy_life e with h' | ⟨_, h'⟩
  · exact absurd (by rw [h']; rfl) h
  · exact h'
theorem witness_PlacementIsLowestCandidate :
    1 ≤ (asked 2 .up 4 129 8 0).width ∧ ∀ e b q, (busy.life e).occupies? = some (b, q) → 1 ≤ b.width := by
  refine ⟨by decide, fun e b q h => ?_⟩
  obtain rfl := busy_occupies e (by simp [h])
  have : (busy.life 3).occupies? = some (asked 0 .up 10 19 10 0, placed 10 10 0) := by decide +kernel
  rw [this] at h
  cases h
  decide

theorem plant_legal : LegalProfile plant := by
  refine { split := ?_, dsBaseLim := ?_, tiltSpan := ?_, usLim := ?_, budgets := fun d => by cases d <;> decide
           guards := fun x y => by cases x <;> cases y <;> decide, framePeriod := ?_, cadence := ?_, prepare := ?_
           settle := ?_, overMargin := ?_, stray := ?_, recovery := ?_
           quotas := fun t d => by revert t; cases d <;> decide
           entryQuota := ?_, pace := ?_, ruleBlocks := ?_, blocks := ?_, ownBlocks := ?_, regionCount := ?_, regions := ?_, oneRegion := ?_
           ruleTable := ?_, rules := ?_ } <;> decide
theorem witness_DensityAndLoad : LegalProfile plant := plant_legal

/-! #### Requests by handle -/

/-- Handle ⟨3, 0⟩ names entry 3 of `busy` for tenant 0, whatever life of tenant 0 but COOLING it has. -/
def withLife (l : Life) (s : State) : State := { s with table := s.table.set 3 ⟨0, l⟩ }

theorem names (l : Life) (s : State) (h : l.tenant? = some 0) (hc : ∀ a p f, l ≠ .cooling a p f) :
    Names (withLife l s) 0 ⟨3, 0⟩ 3 := by
  have hl : (withLife l s).entry 3 = ⟨0, l⟩ := by simp [withLife, State.entry]
  have hl' : (withLife l s).life 3 = l := by simp [State.life, hl]
  exact ⟨rfl, by rw [hl], by rw [hl', h], by rw [hl']; exact hc⟩

/-- The lives that the clauses of RELEASE, WITHDRAW and QUERY_SPAN distinguish. -/
def lives : List Life :=
  let a := asked 0 .up 10 19 10 0
  let q := placed 10 10 0
  [.pending a .room none, .staged a q, .live a q none, .retiring a q true, .dropping a q 7 false, .adding a q 7 true true,
   .adding a q 7 false false]

theorem witness_ReleaseAnswers : ∀ l ∈ lives, ∀ cycle ∈ [CycleState.preparing, .armed], ∀ expected ∈ [[], [(0 : Tenant)]],
    let s := evaluating 0 (.release ⟨3, 0⟩) (withLife l { ready with cycle, expected })
    Evaluating s plant 0 (.release ⟨3, 0⟩) ∧ Names s 0 ⟨3, 0⟩ 3 ∧ s.life 3 = l ∧ s.cycle = cycle ∧ s.expected = expected := by
  intro l hl cycle _ expected _
  simp only [lives, List.mem_cons, List.not_mem_nil, or_false] at hl
  refine ⟨⟨⟨rfl, rfl, rfl, rfl⟩, rfl, rfl⟩, ?_, by simp [evaluating, withLife, State.life, State.entry, State.setPort], rfl, rfl⟩
  have := names l { ready with cycle, expected } (by rcases hl with rfl | rfl | rfl | rfl | rfl | rfl | rfl <;> rfl)
    (by rcases hl with rfl | rfl | rfl | rfl | rfl | rfl | rfl <;> simp)
  exact ⟨this.index, this.generation, this.owner, this.notCooling⟩
/-- A handle with another generation names nothing. -/
theorem witness_ReleaseAnswers_gone : ∀ e, ¬ Names (evaluating 0 (.release ⟨3, 1⟩) busy) 0 ⟨3, 1⟩ e := by
  intro e h
  have h3 : e = 3 := Fin.ext h.index
  have h1 : (busy.entry 3).generation ≠ 1 := by decide +kernel
  exact h1 (h3 ▸ h.generation)
theorem witness_WithdrawAndQuerySpan : ∀ r ∈ [EngineRequest.withdraw ⟨3, 0⟩, .querySpan ⟨3, 0⟩], ∀ l ∈ lives,
    let s := evaluating 0 r (withLife l ready)
    Evaluating s plant 0 r ∧ Names s 0 ⟨3, 0⟩ 3 ∧ s.life 3 = l := by
  intro r hr l hl
  simp only [lives, List.mem_cons, List.not_mem_nil, or_false] at hl hr
  refine ⟨⟨⟨rfl, rfl, rfl, rfl⟩, rfl, by rcases hr with rfl | rfl <;> rfl⟩, ?_,
    by simp [evaluating, withLife, State.life, State.entry, State.setPort]⟩
  have := names l ready (by rcases hl with rfl | rfl | rfl | rfl | rfl | rfl | rfl <;> rfl)
    (by rcases hl with rfl | rfl | rfl | rfl | rfl | rfl | rfl <;> simp)
  exact ⟨this.index, this.generation, this.owner, this.notCooling⟩

/-- A run of 64 granules up to 1199; one past it; a count of 0 and of 65. -/
theorem witness_QueryMapAnswers :
    (∀ lo count, Evaluating (evaluating 0 (.queryMap lo count) ready) plant 0 (.queryMap lo count))
    ∧ (64 : Byte).toNat ≤ 64 ∧ (1136 : BitVec 16).toNat + (64 : Byte).toNat - 1 ≤ 1199
    ∧ ¬ (1137 : BitVec 16).toNat + (64 : Byte).toNat - 1 ≤ 1199 ∧ ¬ 1 ≤ (0 : Byte).toNat ∧ ¬ (65 : Byte).toNat ≤ 64 :=
  ⟨fun _ _ => evaluates _, by decide, by decide, by decide, by decide, by decide⟩

/-- READY and REFUSE of batch 7 in PREPARING with tenant 0 expected, and with none expected; in the last a charge of 2
isolates. -/
theorem witness_BatchIsAnswered : ∀ yes : Bool, ∀ expected ∈ [[], [(0 : Tenant)]],
    let r : EngineRequest := if yes then .ready 7 else .refuse 7
    let s := evaluating 0 r { preparing with expected }
    Evaluating s plant 0 r ∧ s.cycle = .preparing ∧ s.batch = 7 ∧ s.expected = expected := by
  intro yes expected _
  cases yes <;> exact ⟨⟨⟨rfl, rfl, rfl, rfl⟩, rfl, rfl⟩, rfl, rfl, rfl⟩
theorem witness_BatchIsAnswered_charge :
    (charge plant 0 2 .refusal (withdrawPart 0 preparing)).2 = false
    ∧ (charge plant 0 2 .refusal (withdrawPart 0 (preparing.setRecord 0 ⟨126, true, false, none⟩))).2 = true := by
  refine ⟨?_, ?_⟩ <;> decide +kernel

/-- PREPARING with nobody expected, with a batch entry and with none. -/
theorem witness_ExpectedSetEmpties :
    ({ preparing with expected := [] }.cycle = .preparing ∧ ((preparing.life 3).inBatch?).isSome = true)
    ∧ ∀ e, ({ ready with cycle := .preparing }.life e).inBatch? = none := by
  refine ⟨⟨rfl, by decide +kernel⟩, fun e => ?_⟩
  show (ready.life e).inBatch? = none
  rw [show ready.life e = .free by
    simp [State.life, State.entry, show ready.table = Vector.replicate 256 ⟨0, .free⟩ from rfl]]
  rfl
/-- Matching sums; and a sweep whose position stands on an entry of tenant 2, on one of another tenant for tenant 0's purge, at
END with a step in hand, and without a step in hand. -/
theorem witness_PurgeTakesOut :
    SumsMatch busy ∧ ready.sweep = .idle ∧ stepping.waitList.Nodup ∧ stepping.waitList = [] ++ 5 :: []
    ∧ stepping.sweep = .running (.entry 5) false ∧ (stepping.life 5).tenant? = some 2 ∧ (stepping.life 5).tenant? ≠ some 0
    ∧ stepping.inHand = some .sweep ∧ { stepping with inHand := none }.inHand ≠ some .sweep
    ∧ { stepping with sweep := .running .listEnd true }.sweep = .running .listEnd true :=
  ⟨busy_sums, rfl, by decide +kernel, rfl, rfl, by decide +kernel, by decide +kernel, rfl, by simp, rfl⟩

/-! #### The sweep, frame events and the cycle -/

/-- A sweep step in hand on entry 5 with the fit checks passing at 4, failing, and with the tenant PAUSED; and at END. -/
theorem witness_SweepStepOutcomes :
    (∀ (m : PortMode) (again : Bool) (pace : Nat),
      Stepping { setMode 2 m stepping with sweep := .running (.entry 5) again, pace := #v[0, 0, pace, 0] } plant 5 again
        (asked 2 .up 4 129 8 0) .pace (some 1))
    ∧ FitsAt plant stepping (asked 2 .up 4 129 8 0) 4
    ∧ FitFails plant { stepping with pace := #v[0, 0, 1, 0] } (asked 2 .up 4 129 8 0) .pace
    ∧ (∀ m : PortMode, ((setMode 2 m stepping).port 2).mode = m)
    ∧ (let s : State := { stepping with sweep := .running .listEnd true }
       Settled s ∧ s.device = .running plant ∧ s.inHand = some .sweep) ∧ ready.inHand ≠ some .sweep :=
  ⟨fun _ _ _ => ⟨rfl, rfl, rfl, rfl, rfl⟩, ⟨by decide +kernel, by decide +kernel, by decide +kernel, by decide +kernel⟩, Nat.one_pos,
    fun _ => rfl, ⟨rfl, rfl, rfl⟩, by decide +kernel⟩
/-- A position that stands on the entry that leaves, with and without a step in hand; a list in rank order. -/
theorem witness_ListAndSweepRequests :
    stepping.waitList = [] ++ 5 :: [] ∧ (5 : EntryIx) ∉ ([] : List EntryIx) ∧ stepping.sweep = .running (.entry 5) false
    ∧ stepping.inHand = some .sweep ∧ { stepping with inHand := none }.inHand ≠ some .sweep
    ∧ { stepping with sweep := .idle }.sweep = .idle ∧ ready.sweep = .idle ∧ ready.waitList = []
    ∧ { stepping with sweep := .running .listEnd false }.sweep = .running .listEnd false
    ∧ [(2 : EntryIx), 7, 7].Pairwise (fun x y => x.val ≤ y.val) :=
  ⟨rfl, by simp, rfl, rfl, by simp, rfl, rfl, rfl, rfl, by decide⟩

theorem witness_FrameEventCounts :
    Settled busy ∧ busy.device = .running plant ∧ plant.frameSource = .external
    ∧ { plant with frameSource := .internal }.frameSource = .internal := ⟨rfl, rfl, rfl, rfl⟩
theorem witness_HoldoffLeavesCountdowns : Settled armed ∧ armed.device = .running plant := ⟨rfl, rfl⟩
theorem witness_FreezeTaken :
    { ready with trigger := true }.trigger = true ∧ ready.trigger = false
    ∧ ∃ e a q, (withLife (.staged (asked 0 .up 10 19 10 0) (placed 10 10 0)) ready).life e = .staged a q :=
  ⟨rfl, rfl, 3, _, _, rfl⟩
theorem witness_EmptyFreeze :
    (∀ e a q, busy.life e ≠ .staged a q) ∧ (∀ e a q f, busy.life e ≠ .retiring a q f)
    ∧ { busy with trigger := true }.trigger = true ∧ busy.trigger = false := by
  refine ⟨fun e a q he => ?_, fun e a q f he => ?_, rfl, rfl⟩ <;>
    rcases busy_life e with h | ⟨h, _⟩ <;> simp [h, live] at he
theorem armed_life (e : EntryIx) :
    armed.life e = .free ∨ armed.life e = .adding (asked 0 .up 10 19 10 0) (placed 10 10 0) 7 false false ∧ e = 3 := by
  revert e
  decide +kernel
/-- The image in flight of `armed` is the image of the commit's on-air set. -/
theorem armed_image : ImageOk armed := fun _ => ⟨_, rfl, rfl, by decide +kernel, rfl, by simp, by decide +kernel⟩
theorem witness_CommitTaken : ImageOk armed ∧ armed.cycle = .armed ∧
    (∃ f, armed.link = .acked ∧ armed.inFlight = some f) ∧ starting.link ≠ .acked
    ∧ ∃ e a q b f, (withLife (.dropping (asked 0 .up 10 19 10 0) (placed 10 10 0) 7 false) armed).life e = .dropping a q b f :=
  ⟨armed_image, rfl, ⟨_, rfl, rfl⟩, by decide +kernel, 3, _, _, _, _, rfl⟩
theorem witness_ExpiriesTaken :
    (∀ it : FrameItem, it ∈ { ready with due := [it] }.due ∧ it ∉ ready.due ∧ { ready with due := [it] }.device = .running plant)
    ∧ { ready with cadence := 0 }.cadence = 0
    ∧ (withLife (.live (asked 0 .up 10 19 10 0) (placed 10 10 0) (some 0)) ready).life 3
        = .live (asked 0 .up 10 19 10 0) (placed 10 10 0) (some 0)
    ∧ (withLife (.pending (asked 2 .up 4 129 8 0) .room (some 0)) ready).life 3 = .pending (asked 2 .up 4 129 8 0) .room (some 0)
    ∧ ((isolatedWith (some 0)).record 0).isolated = true ∧ ((isolatedWith (some 0)).record 0).recovery = some 0 := by
  refine ⟨fun it => ⟨List.mem_singleton_self it, ?_, rfl⟩, rfl, rfl, rfl, rfl, rfl⟩
  rw [show ready.due = [] from rfl]
  exact List.not_mem_nil
theorem witness_CycleExpiriesTaken :
    (∀ it : FrameItem, it ∈ { preparing with due := [it] }.due)
    ∧ preparing.device = .running plant ∧ preparing.cycle = .preparing ∧ { preparing with prepareLeft := some 0 }.prepareLeft = some 0
    ∧ (0 : Tenant) ∈ preparing.expected
    ∧ { ready with cycle := .settling, settleLeft := some 0 }.settleLeft = some 0
    ∧ { starting with ackWait := some 4 }.link = .waitAck ∧ (∃ f, starting.inFlight = some f ∧ f.image.kind = .startUp)
    ∧ ∃ f, armed.inFlight = some f ∧ f.image.kind = .batch :=
  ⟨fun it => List.mem_singleton_self it, rfl, rfl, rfl, by decide +kernel, rfl, rfl, ⟨_, rfl, rfl⟩, ⟨_, rfl, rfl⟩⟩
theorem witness_AbandonmentReturns :
    SumsMatch busy ∧ ∃ e a q b f, (withLife (.adding (asked 0 .up 10 19 10 0) (placed 10 10 0) 7 true false) armed).life e
      = .adding a q b true f := ⟨busy_sums, 3, _, _, _, _, rfl⟩

/-! #### The plan link, the monitor and conduct -/

theorem witness_PlanLinkExchanges :
    Settled starting ∧ starting.device = .running plant ∧ starting.link = .waitAck
    ∧ (∃ f, starting.inFlight = some f ∧ f.image.kind = .startUp)
    ∧ Settled armed ∧ armed.link = .acked ∧ (∃ f, armed.inFlight = some f ∧ f.image.kind = .batch)
    ∧ (∀ f, armed.inFlight = some f → f.image.epoch ≠ 1 ∨ f.send ≠ 3)
    ∧ OutFrame.isImage (.apply 1 2) = false
    ∧ { ready with transmit := [.apply 1 2], startUpWaiting := some ⟨1, .startUp, 0, []⟩ }.startUpWaiting
        = some ⟨1, .startUp, 0, []⟩ := by
  refine ⟨rfl, rfl, rfl, ⟨_, rfl, rfl⟩, rfl, rfl, ⟨_, rfl, rfl⟩, fun f h => ?_, rfl, rfl⟩
  cases h
  exact .inr (by decide)

/-- A report taken, one discarded in OFF, one that began with MREADY deasserted, and the boundary counts 0, 32 and 33. -/
theorem witness_ReportsArrive :
    Settled ready ∧ ready.device = .running plant ∧ plant.enforcement ≠ .off ∧ ready.transfer.getD ready.mready = true
    ∧ (readReport (withCrc [0x00, 0x0A, 0x01, 0x05]) false).isSome = true
    ∧ { plant with enforcement := .off }.enforcement = .off ∧ (some false).getD true = false
    ∧ (List.replicate 32 (0 : Byte)).length ≤ 32 ∧ (1168 : BitVec 16).toNat + 32 - 1 ≤ 1199
    ∧ 1199 < (1169 : BitVec 16).toNat + 32 - 1 ∧ 32 < (List.replicate 33 (0 : Byte)).length
    ∧ join16 0 0 ≠ crc16 [0x00, 0x0A, 0x01, 0x05]
    ∧ ([0x00, 0x0A] : List Byte).length < 3 ∧ ([0x00, 0x0A, 0x01, 0x05, 0x00] : List Byte)[2]? = some 1 := by
  refine ⟨rfl, rfl, ?_⟩
  decide +kernel
theorem witness_ValuesAreClamped :
    (0x7F : Byte) = 127 ∧ (0xD7 : Byte).toInt = -41 ∧ (0xD8 : Byte).toInt = -40 ∧ (20 : Byte).toInt = 20
    ∧ (21 : Byte).toInt = 21 ∧ (126 : Byte).toInt = 126
    ∧ (readReport (withCrc [0x00, 0x0A, 0x01, 0x05]) false).isSome = true
    ∧ LegalProfile plant ∧ ∀ a q, (a, q) ∈ busy.onAir → -8 ≤ q.density := by
  refine ⟨rfl, by decide, by decide, by decide, by decide, by decide, by decide +kernel, plant_legal, fun a q h => ?_⟩
  rw [show busy.onAir = [(asked 0 .up 10 19 10 0, placed 10 10 0)] by decide +kernel] at h
  cases List.mem_singleton.1 h
  decide
/-- Granule 19 lies in the one span on air, 20 does not. -/
theorem witness_GranulesAreJudged :
    busy.onAir = [(asked 0 .up 10 19 10 0, placed 10 10 0)] ∧ busy.changed = []
    ∧ (placed 10 10 0).first ≤ 19 ∧ 19 < (placed 10 10 0).first + (asked 0 .up 10 19 10 0).width
    ∧ ¬ 20 < (placed 10 10 0).first + (asked 0 .up 10 19 10 0).width ∧ 1 ≤ (asked 0 .up 10 19 10 0).width := by
  decide +kernel
theorem witness_ReportsAreEvaluated :
    let s : State := { busy with reports := [⟨10, [some 4]⟩], evaluating := true }
    Settled s ∧ s.device = .running plant ∧ s.evaluating = true ∧ s.reports = ⟨10, [some 4]⟩ :: [] ∧ s.log.length ≤ 16
    ∧ Settled ready ∧ ready.reports = [] ∧ ready.evaluating = false
    ∧ { plant with enforcement := .record }.enforcement = .record :=
  ⟨rfl, rfl, rfl, rfl, by decide +kernel, rfl, rfl, rfl, rfl⟩

/-- Records at 87 and 95, 96 and 127, 64, 63 and 0, and isolated at 128: the bounds of the charges and credits. -/
theorem witness_ChargesAndCredits :
    (∀ c ∈ [(⟨0, false, false, none⟩ : ConductRecord), ⟨63, false, false, none⟩, ⟨64, true, false, none⟩, ⟨87, false, false, none⟩,
        ⟨95, false, false, none⟩, ⟨96, true, false, none⟩, ⟨127, true, false, none⟩],
      c.isolated = false ∧ RecordOk c ∧ (ready.setRecord 0 c).record 0 = c)
    ∧ ((isolatedWith (some 7)).record 0).isolated = true
    ∧ (let s : State := { busy with reports := [⟨10, [some 4]⟩], evaluating := true }
       Settled s ∧ s.device = .running plant ∧ s.evaluating = true ∧ s.reports = ⟨10, [some 4]⟩ :: []) := by
  refine ⟨fun c hc => ?_, rfl, rfl, rfl, rfl, rfl⟩
  simp only [List.mem_cons, List.not_mem_nil, or_false] at hc
  rcases hc with rfl | rfl | rfl | rfl | rfl | rfl | rfl <;>
    exact ⟨rfl, ⟨by decide, by decide, by decide, by decide⟩, rfl⟩

/-! #### What every step keeps: a RUNNING state with a span on air and an isolated tenant, and a command in its queue -/

def queued : State := { busy with pending := [.trigger 0] }

theorem queued_steps : ∃ t, step queued = .next t := ⟨_, rfl⟩
theorem queued_life (e : EntryIx) : queued.life e = .free ∨ queued.life e = live ∧ e = 3 := busy_life e
theorem queued_record (t : Tenant) : queued.record t = resetConduct ∨ queued.record t = ⟨130, true, true, some 40⟩ ∧ t = 1 := by
  revert t
  decide +kernel

theorem witness_StepKeepsSums : SumsMatch queued ∧ ∃ t, step queued = .next t :=
  ⟨⟨busy_sums.load, busy_sums.held, busy_sums.count⟩, queued_steps⟩
theorem witness_StepKeepsLimits : SumsMatch queued ∧ WithinLimits queued ∧ ∃ t, step queued = .next t := by
  refine ⟨⟨busy_sums.load, busy_sums.held, busy_sums.count⟩, ⟨fun p hp d => ?_, fun p hp t d => ?_, fun h => ?_, fun h => ?_⟩,
    queued_steps⟩
  · cases hp; cases d <;> decide +kernel
  · cases hp; revert t; cases d <;> decide +kernel
  · exact absurd h (by decide +kernel)
  · exact absurd h (by decide +kernel)
theorem queued_spans : SpansOk queued := by
  have asked? (e : EntryIx) (a : Asked) (h : (queued.life e).asked? = some a) : a = asked 0 .up 10 19 10 0 := by
    rcases queued_life e with h' | ⟨h', _⟩ <;> rw [h'] at h <;> cases h
    rfl
  have occupies? (e : EntryIx) (a : Asked) (q : Placed) (h : (queued.life e).occupies? = some (a, q)) :
      a = asked 0 .up 10 19 10 0 ∧ q = placed 10 10 0 := by
    rcases queued_life e with h' | ⟨h', _⟩ <;> rw [h'] at h <;> cases h
    exact ⟨rfl, rfl⟩
  refine ⟨fun p hp => ?_, fun e a h => ?_, fun p hp e a h => ?_, fun e a q h => ?_, fun p hp e a q h => ?_,
    fun h => absurd h (by decide +kernel)⟩
  · cases hp
    exact plant_legal
  · cases asked? e a h
    decide
  · cases hp
    cases asked? e a h
    decide
  · obtain ⟨rfl, rfl⟩ := occupies? e a q h
    decide
  · cases hp
    obtain ⟨rfl, rfl⟩ := occupies? e a q h
    refine ⟨by decide +kernel, fun g h1 h2 => ?_⟩
    have : ∀ k < 10, plant.permitted 0 (10 + k) = true := by decide +kernel
    change 10 ≤ g at h1
    change g < 10 + 10 at h2
    have h := this (g - 10) (by omega)
    rw [show 10 + (g - 10) = g by omega] at h
    exact h
theorem witness_StepKeepsPlanClear : PlanClear queued ∧ SpansOk queued ∧ ∃ t, step queued = .next t := by
  refine ⟨⟨fun p _ e f a q b r hef he hf => ?_, fun h => absurd h (by decide +kernel)⟩, queued_spans, queued_steps⟩
  rcases queued_life e with h | ⟨_, rfl⟩
  · simp [h, Life.occupies?] at he
  · rcases queued_life f with h | ⟨_, rfl⟩
    · simp [h, Life.occupies?] at hf
    · exact absurd rfl hef
theorem witness_StepKeepsList : ListOk queued ∧ ∃ t, step queued = .next t := by
  have hw : queued.waitList = [] := rfl
  have hs : queued.sweep = .idle := rfl
  refine ⟨⟨?_, fun e => ?_, ?_, ?_, ?_, ?_, ?_, ?_⟩, queued_steps⟩
  · simp [hw]
  · rcases queued_life e with h | ⟨h, _⟩ <;> simp [hw, h, isPending, live]
  · simp [hw]
  · simp [hw]
  · simp [hw]
  · simp [hs]
  · simp [hs]
  · intro _; decide +kernel
theorem witness_StepKeepsCycle : CycleOk queued ∧ ∃ t, step queued = .next t := by
  refine ⟨{ lives := fun e => ?_, prepare := rfl, settle := rfl, changed := fun _ => rfl, expected := ?_, called := fun _ => rfl
            subset := ?_, armed := ?_, startUp := ?_, flight := ?_, wait := rfl, sending := ?_, sent := fun _ => rfl, unsent := ?_
            waiting := ?_, noProfile := ?_ }, queued_steps⟩
  · rcases queued_life e with h | ⟨h, _⟩ <;> rw [h] <;> rfl
  · exact ⟨fun _ => by decide +kernel, fun _ => rfl⟩
  · intro t h; exact absurd h (by rw [show queued.expected = [] from rfl]; exact List.not_mem_nil)
  · exact ⟨fun h => absurd h (by decide +kernel), fun ⟨f, h, _⟩ => nomatch h⟩
  · intro f h; exact nomatch h
  · exact ⟨fun _ => rfl, fun _ => rfl⟩
  · intro h; exact absurd h (by decide +kernel)
  · intro _; rw [show queued.transmit = [] from rfl]; simp
  · intro i h; exact nomatch h
  · intro h; exact absurd h (by decide +kernel)
/-- ARMED with the batch image in flight. -/
theorem witness_StepKeepsCycle_image :
    CycleOk { armed with pending := [.trigger 0] } ∧ ImageOk { armed with pending := [.trigger 0] }
    ∧ ∃ t, step { armed with pending := [.trigger 0] } = .next t := by
  refine ⟨{ lives := fun e => ?_, prepare := rfl, settle := rfl, changed := fun _ => rfl, expected := ?_, called := fun _ => rfl
            subset := ?_, armed := ?_, startUp := ?_, flight := ?_, wait := rfl, sending := ?_, sent := fun _ => rfl, unsent := ?_
            waiting := ?_, noProfile := ?_ }, armed_image, _, rfl⟩
  · show lifeFits .armed 7 (armed.life e) = true
    rcases armed_life e with h | ⟨h, _⟩ <;> rw [h] <;> rfl
  · exact ⟨fun _ => CycleState.noConfusion, fun _ => rfl⟩
  · intro t h; exact absurd h (by rw [show armed.expected = [] from rfl]; exact List.not_mem_nil)
  · exact ⟨fun _ => ⟨_, rfl, rfl⟩, fun _ => rfl⟩
  · intro f h hk; cases h; exact nomatch hk
  · constructor <;> intro h <;> nomatch h
  · intro h; exact nomatch h
  · intro h; exact nomatch h
  · intro i h; exact nomatch h
  · intro h; exact nomatch h
theorem witness_StepKeepsConduct : ConductOk queued ∧ ∃ t, step queued = .next t := by
  refine ⟨⟨fun t => ?_, fun p hp t h => ?_, fun h => absurd h (by decide +kernel)⟩, queued_steps⟩
  · rcases queued_record t with h | ⟨h, _⟩ <;> rw [h] <;> exact ⟨by decide, by decide, by decide, by decide⟩
  · cases hp
    rcases queued_record t with h' | ⟨h', _⟩
    · simp [h', resetConduct] at h
    · simp [h', plant]
theorem witness_StepKeepsIsolatedOut : IsolatedOut queued ∧ ∃ t, step queued = .next t := by
  have hi (t : Tenant) (h : (queued.record t).isolated = true) : t = 1 := by
    rcases queued_record t with h' | ⟨_, h'⟩
    · simp [h', resetConduct] at h
    · exact h'
  refine ⟨⟨fun t ht e he => ?_, fun t _ => by rw [show queued.expected = [] from rfl]; exact List.not_mem_nil⟩, queued_steps⟩
  cases hi t ht
  rcases queued_life e with h | ⟨h, _⟩ <;> rw [h] at he ⊢
  · rfl
  · exact absurd he (by decide)
theorem witness_StepKeepsQueues : QueuesOk queued ∧ ∃ t, step queued = .next t := by
  refine ⟨⟨by decide +kernel, by decide +kernel, by unfold logSequences; decide +kernel, by decide +kernel, fun _ => by decide +kernel,
    fun _ => rfl, fun h => nomatch h⟩, queued_steps⟩
theorem witness_AirChangesAtFrameEvents : mayChangeAir .arbiterGrant = false ∧ ∃ t, exec .arbiterGrant busy = .next t :=
  ⟨rfl, _, rfl⟩
theorem witness_GenerationMovesFromFree : Instr.place ≠ .deviceReset ∧ Settled busy ∧ ∃ t, exec .place busy = .next t :=
  ⟨by decide, rfl, _, rfl⟩
theorem witness_PortFramesRoundTrip :
    (Instr.fetch 3 65535).WellFormed = true ∧ ∃ t bytes, Decode.frameBytes (.fetch 3 2) = some (t, bytes) :=
  ⟨by decide, _, _, rfl⟩

end Sys2Proof.Tests
end

section
/-! SUPPORT. What a shared operation, an expiry and the freeze or commit test leave as they were, and that none of them raises a
running sum: the relation `Eases`, proved once of each operation, so that what every command keeps follows by composition. -/

namespace Sys2Proof.Proofs

open Machine Safety Laws

/-! ### The relations -/

/-- The device and the queue of commands stand and no load accumulator or held-granule count is above what it was. -/
structure NoMore (s u : State) : Prop where
  device  : u.device = s.device
  pending : u.pending = s.pending
  load    : ∀ d, u.load.get d ≤ s.load.get d
  held    : ∀ (t : Tenant) d, u.held[t].get d ≤ s.held[t].get d

/-- As `NoMore`, and what only a frame event, a freeze or a commit moves stands as well. -/
structure Eases (s u : State) : Prop extends NoMore s u where
  internalCountdown : u.internalCountdown = s.internalCountdown
  frameCounter      : u.frameCounter = s.frameCounter
  due               : u.due = s.due
  batch             : u.batch = s.batch
  epoch             : u.epoch = s.epoch

/-- The fields that `Eases` speaks of. -/
def keptFields (s : State) :=
  (s.device, s.pending, s.load, s.held, s.internalCountdown, s.frameCounter, s.due, s.batch, s.epoch)

/-- An update of other fields than those of `keptFields`: by `rfl` for each record update of the model. -/
theorem eases_of_keptFields {s u : State} (h : keptFields u = keptFields s) : Eases s u := by
  simp only [keptFields, Prod.mk.injEq] at h
  obtain ⟨device, pending, load, held, internalCountdown, frameCounter, due, batch, epoch⟩ := h
  exact ⟨⟨device, pending, fun _ => load ▸ le_rfl, fun _ _ => held ▸ le_rfl⟩, internalCountdown, frameCounter, due, batch,
    epoch⟩

@[refl] theorem Eases.refl (s : State) : Eases s s := eases_of_keptFields rfl

theorem NoMore.trans {s u v : State} (h : NoMore s u) (g : NoMore u v) : NoMore s v :=
  ⟨g.device.trans h.device, g.pending.trans h.pending, fun d => (g.load d).trans (h.load d),
    fun t d => (g.held t d).trans (h.held t d)⟩

theorem Eases.trans {s u v : State} (h : Eases s u) (g : Eases u v) : Eases s v :=
  ⟨h.toNoMore.trans g.toNoMore, g.internalCountdown.trans h.internalCountdown, g.frameCounter.trans h.frameCounter,
    g.due.trans h.due, g.batch.trans h.batch, g.epoch.trans h.epoch⟩

theorem Eases.withDue {s u : State} (h : Eases s u) (due : List FrameItem) : Eases { s with due := due } { u with due := due } :=
  ⟨⟨h.device, h.pending, h.load, h.held⟩, h.internalCountdown, h.frameCounter, rfl, h.batch, h.epoch⟩

theorem foldl_eases {α : Type} (f : State → α → State) (h : ∀ s x, Eases s (f s x)) (xs : List α) (s : State) :
    Eases s (xs.foldl f s) := by
  induction xs generalizing s with
  | nil => exact .refl s
  | cons x xs ih => exact (h s x).trans (ih (f s x))

/-- A fold that carries a second result beside the state. -/
theorem foldl_fst_eases {α β : Type} (f : State × β → α → State × β) (h : ∀ x a, Eases x.1 (f x a).1) (xs : List α)
    (x : State × β) : Eases x.1 (xs.foldl f x).1 := by
  induction xs generalizing x with
  | nil => exact .refl x.1
  | cons a xs ih => exact (h x a).trans (ih (f x a))

/-! ### Lives and their sums -/

/-- The new life is in no load set, or in the same one with the same span. -/
def Sheds (old new : Life) : Prop := new.loaded? = none ∨ new.loaded? = old.loaded?

theorem Sheds.loadIn_le {old new : Life} (h : Sheds old new) (d : Direction) : new.loadIn d ≤ old.loadIn d := by
  rcases h with h | h <;> simp [Life.loadIn, h]

theorem Sheds.heldIn_le {old new : Life} (h : Sheds old new) (t : Tenant) (d : Direction) : new.heldIn t d ≤ old.heldIn t d := by
  rcases h with h | h <;> simp [Life.heldIn, h]

theorem setLife_load_get (e : EntryIx) (l : Life) (s : State) (d : Direction) :
    (setLife e l s).load.get d = s.load.get d + l.loadIn d - (s.life e).loadIn d := by
  cases d <;> rfl

theorem setLife_held_get (e : EntryIx) (l : Life) (s : State) (t : Tenant) (d : Direction) :
    (setLife e l s).held[t].get d = s.held[t].get d + l.heldIn t d - (s.life e).heldIn t d := by
  cases d <;> simp [setLife, PerDir.get]

theorem setLife_eases {e : EntryIx} {l : Life} {s : State} (h : Sheds (s.life e) l) : Eases s (setLife e l s) where
  device := rfl
  pending := rfl
  load d := by
    have := h.loadIn_le d
    rw [setLife_load_get]
    omega
  held t d := by
    have := h.heldIn_le t d
    rw [setLife_held_get]
    omega
  internalCountdown := rfl
  frameCounter := rfl
  due := rfl
  batch := rfl
  epoch := rfl

theorem mapLives_eases {f : EntryIx → Life → Option Life} (h : ∀ e l l', f e l = some l' → Sheds l l') (s : State) :
    Eases s (mapLives f s) := by
  refine foldl_eases _ (fun s e => ?_) allEntries s
  split
  · exact setLife_eases (h e _ _ ‹_›)
  · exact .refl s

theorem countedLife_sheds {l l' : Life} (h : countedLife l = some l') : Sheds l l' := by
  unfold countedLife at h
  split at h <;> cases h <;> exact .inr rfl

theorem frozenLife_sheds {batch : BitVec 16} {l l' : Life} (h : frozenLife batch l = some l') : Sheds l l' := by
  unfold frozenLife at h
  split at h <;> cases h <;> exact .inr rfl

theorem returnedLife_sheds {l l' : Life} (h : returnedLife l = some l') : Sheds l l' := by
  unfold returnedLife at h
  split at h <;> cases h <;> exact .inr rfl

theorem abandonedLife_sheds {l l' : Life} (h : abandonedLife l = some l') : Sheds l l' := by
  unfold abandonedLife at h
  split at h <;> cases h <;> simp [Sheds, Life.loaded?]

theorem committedLife_sheds {settleFrames : Nat} {l l' : Life} (h : committedLife settleFrames l = some l') : Sheds l l' := by
  unfold committedLife at h
  split at h <;> cases h
  case h_3 => split <;> simp [Sheds, Life.loaded?]
  all_goals exact .inr rfl

theorem purgedLife_sheds {cycle : CycleState} {l l' : Life} (h : purgedLife cycle l = some l') : Sheds l l' := by
  unfold purgedLife at h
  split at h
  case h_4 => split at h <;> cases h <;> simp [Sheds, Life.loaded?]
  all_goals cases h <;> simp [Sheds, Life.loaded?]

/-- A move of one tenant's entries alone. -/
theorem ofTenant_sheds {f : Life → Option Life} (h : ∀ l l', f l = some l' → Sheds l l') (t : Tenant) {l l' : Life}
    (hl : (if l.tenant? = some t then f l else none) = some l') : Sheds l l' := by
  split at hl
  · exact h l l' hl
  · cases hl

/-! ### Notices, the plan link, the prepare phase and the purge -/

theorem issue_eases (t : Tenant) (body : NoticeBody) (s : State) : Eases s (issue t body s) := eases_of_keptFields rfl

theorem issueAll_eases (ts : List Tenant) (body : NoticeBody) (s : State) : Eases s (issueAll ts body s) :=
  foldl_eases _ (fun s t => issue_eases t body s) ts s

theorem requestSweep_eases (s : State) : Eases s (requestSweep s) := eases_of_keptFields rfl

theorem leaveList_eases (e : EntryIx) (s : State) : Eases s (leaveList e s) := eases_of_keptFields rfl

theorem leaveExpected_eases (t : Tenant) (s : State) : Eases s (leaveExpected t s) := eases_of_keptFields rfl

theorem handImage_eases (image : PlanImage) (s : State) : Eases s (handImage image s) := eases_of_keptFields rfl

theorem becomeArmed_eases (s : State) : Eases s (becomeArmed s) := eases_of_keptFields rfl

theorem batchEmpty_eases (s : State) : Eases s (batchEmpty s) :=
  (issueAll_eases s.called (.abandoned s.batch none) s).trans (eases_of_keptFields rfl)

theorem proceed_eases (s : State) : Eases s (proceed s) := by
  unfold proceed
  split
  · split
    · exact becomeArmed_eases s
    · exact batchEmpty_eases s
  · exact .refl s

theorem purge_eases (t : Tenant) (s : State) : Eases s (purge t s) := by
  unfold purge
  extract_lets waiting s1 s2 s3 s4
  have out : Eases s s1 := foldl_eases _ (fun s e => leaveList_eases e s) waiting s
  have moved : Eases s1 s2 := mapLives_eases (fun _ _ _ => ofTenant_sheds (fun _ _ => purgedLife_sheds) t) s1
  clear_value s2
  have silent : Eases s2 s3 := eases_of_keptFields rfl
  have proceeded : Eases s3 s4 := by
    unfold s4
    split
    · exact proceed_eases s3
    · rfl
  clear_value s4
  exact out.trans (moved.trans (silent.trans (proceeded.trans (eases_of_keptFields rfl))))

theorem purgeAll_eases (ts : List Tenant) (s : State) : Eases s (purgeAll ts s) :=
  foldl_eases _ (fun s t => purge_eases t s) ts s

theorem setPort_eases (t : Tenant) (p : Port) (s : State) : Eases s (s.setPort t p) := eases_of_keptFields rfl

theorem charge_eases (p : Profile) (t : Tenant) (n : Nat) (cause : Cause) (s : State) : Eases s (charge p t n cause s).1 := by
  obtain ⟨c, q, h⟩ := charge_frame p t n cause s
  rw [h]
  exact eases_of_keptFields rfl

theorem credit_eases (t : Tenant) (cause : Cause) (s : State) : Eases s (credit t cause s) := by
  obtain ⟨c, q, h⟩ := credit_frame t cause s
  rw [h]
  exact eases_of_keptFields rfl

theorem takeRecovery_eases (p : Profile) (t : Tenant) (how : RecoveryHow) (s : State) : Eases s (takeRecovery p t how s) :=
  eases_of_keptFields rfl

theorem withdrawPart_eases (t : Tenant) (s : State) : Eases s (withdrawPart t s) :=
  (mapLives_eases (fun _ _ _ => ofTenant_sheds (fun _ _ => returnedLife_sheds) t) s).trans (leaveExpected_eases t _)

theorem abandon_eases (epoch : BitVec 32) (s : State) : Eases s (abandon epoch s) := by
  unfold abandon
  extract_lets freed s1 s2
  have moved : Eases s s1 := mapLives_eases (fun _ _ _ => abandonedLife_sheds) s
  clear_value s1
  have quiet : Eases s1 { s1 with cycle := .quiet, trigger := true } := eases_of_keptFields rfl
  have told : Eases s s2 := moved.trans (quiet.trans (issueAll_eases _ _ _))
  split
  · exact told.trans (requestSweep_eases s2)
  · exact told

theorem imageFailed_eases (f : Flight) (s : State) : Eases s (imageFailed f s) := by
  unfold imageFailed
  split
  · exact (show Eases s (giveUp s) from eases_of_keptFields rfl).trans (abandon_eases _ _)
  · exact handImage_eases _ s

theorem timeOut_eases (p : Profile) (s : State) : Eases s (timeOut p s) := by
  unfold timeOut
  extract_lets late s1
  have withdrawn : Eases s s1 := foldl_eases _ (fun s t => withdrawPart_eases t s) late s
  have charged := foldl_fst_eases (fun (x : State × List Tenant) t =>
      let (s', now) := charge p t 8 .timeout x.1
      (s', if now then x.2 ++ [t] else x.2)) (fun x t => charge_eases p t 8 .timeout x.1) late (s1, [])
  exact withdrawn.trans (charged.trans ((proceed_eases _).trans (purgeAll_eases _ _)))

theorem endSettle_eases (s : State) : Eases s (endSettle s) := by
  unfold endSettle
  extract_lets cooled s1
  have freed : Eases s s1 := by
    refine mapLives_eases (fun _ l l' h => ?_) s
    unfold cooled at h
    split at h <;> cases h
    exact .inl rfl
  clear_value s1
  exact freed.trans (eases_of_keptFields rfl)

/-! ### The expiries -/

theorem holdOut_eases (e : EntryIx) (s : State) : Eases s (holdOut e s) := by
  unfold holdOut
  split
  · next h => exact (setLife_eases (h ▸ .inr rfl)).trans (issue_eases _ _ _)
  · exact .refl s

theorem waitOut_eases (e : EntryIx) (s : State) : Eases s (waitOut e s) := by
  unfold waitOut
  split
  · exact (leaveList_eases e s).trans ((setLife_eases (.inl rfl)).trans (issue_eases _ _ _))
  · exact .refl s

theorem recoveryOut_eases (p : Profile) (t : Tenant) (s : State) : Eases s (recoveryOut p t s) := by
  unfold recoveryOut
  dsimp only
  split
  · exact takeRecovery_eases p t .auto s
  · exact .refl s

theorem ackWaitOut_eases (s : State) : Eases s (ackWaitOut s) := by
  unfold ackWaitOut
  split
  · split
    · exact (show Eases s (handCancel _ s) from eases_of_keptFields rfl).trans (imageFailed_eases _ _)
    · exact .refl s
  · exact .refl s

theorem expire_eases (p : Profile) (it : FrameItem) (s : State) : Eases s (expire p it s) := by
  cases it with
  | cadence =>
    simp only [expire, cadenceOut]
    split
    · exact eases_of_keptFields rfl
    · exact .refl s
  | hold e => exact holdOut_eases e s
  | lapse e => exact waitOut_eases e s
  | pace t => exact requestSweep_eases s
  | recovery t => exact recoveryOut_eases p t s
  | prepareTimeout =>
    simp only [expire, prepareOut]
    split
    · exact timeOut_eases p s
    · exact .refl s
  | settleEnd =>
    simp only [expire, settleOut]
    split
    · exact endSettle_eases s
    · exact .refl s
  | ackWait => exact ackWaitOut_eases s

/-- Outside RUNNING no expiry occurs. -/
theorem takeExpiry_stopped {s : State} (h : s.profile? = none) (it : FrameItem) : takeExpiry it s = s := by
  unfold takeExpiry
  split
  · next hd => simp [State.profile?, hd] at h
  · rfl

/-- While RUNNING an expiry taken leaves the list of those still due. -/
theorem takeExpiry_eases {s : State} {p : Profile} (h : s.device = .running p) (it : FrameItem) :
    Eases { s with due := s.due.erase it } (takeExpiry it s) := by
  by_cases hm : it ∈ s.due
  · rw [takeExpiry_due it s p h hm]
    exact expire_eases p it _
  · rw [takeExpiry_not_due it s hm, List.erase_of_not_mem hm]

theorem foldl_takeExpiry_eases {s : State} {p : Profile} (h : s.device = .running p) (its : List FrameItem) :
    Eases { s with due := s.due.diff its } (its.foldl (fun s it => takeExpiry it s) s) := by
  induction its generalizing s with
  | nil => rfl
  | cons it its ih =>
    have first := takeExpiry_eases h it
    have rest := ih (first.device.trans h)
    rw [first.due] at rest
    rw [List.diff_cons]
    exact (first.withDue _).trans rest

theorem foldl_takeExpiry_stopped {s : State} (h : s.profile? = none) (its : List FrameItem) :
    its.foldl (fun s it => takeExpiry it s) s = s := by
  induction its with
  | nil => rfl
  | cons it its ih => rw [List.foldl_cons, takeExpiry_stopped h, ih]

theorem running_or_stopped (s : State) : (∃ p, s.device = .running p) ∨ s.profile? = none := by
  unfold State.profile?
  split
  · exact .inl ⟨_, ‹_›⟩
  · exact .inr rfl

theorem settleDue_stopped {s : State} (h : s.profile? = none) : settleDue s = s := foldl_takeExpiry_stopped h s.due

theorem diff_self_eq_nil {α : Type} [BEq α] [LawfulBEq α] (l : List α) : l.diff l = [] := by
  induction l with
  | nil => rfl
  | cons x l ih => rw [List.diff_cons, List.erase_cons_head, ih]

/-- The frame event is over once what it left due has been taken. -/
theorem settleDue_eases {s : State} {p : Profile} (h : s.device = .running p) : Eases { s with due := [] } (settleDue s) := by
  have := foldl_takeExpiry_eases h s.due
  rwa [diff_self_eq_nil] at this

theorem settleDue_noMore (s : State) : NoMore s (settleDue s) := by
  rcases running_or_stopped s with ⟨p, h⟩ | h
  · obtain ⟨device, pending, load, held⟩ := (settleDue_eases h).toNoMore
    exact ⟨device, pending, load, held⟩
  · rw [settleDue_stopped h]
    exact (Eases.refl s).toNoMore

/-! ### The freeze, the commit and the frame event -/

theorem freeze_eases (p : Profile) (s : State) : ∃ batch, Eases { s with batch := batch } (freeze p s) := by
  unfold freeze
  split
  · refine ⟨s.batch + 1, ?_⟩
    extract_lets s1 called s2 s3
    have flagged : Eases { s with batch := s.batch + 1 } { s with trigger := false, batch := s.batch + 1 } :=
      eases_of_keptFields rfl
    have frozen : Eases { s with batch := s.batch + 1 } s1 :=
      flagged.trans (mapLives_eases (fun _ _ _ => frozenLife_sheds) _)
    clear_value s1
    have awaited : Eases s1 s2 := eases_of_keptFields rfl
    have told : Eases s2 s3 := foldl_eases _ (fun s t => issue_eases t _ s) called s2
    clear_value s3
    refine frozen.trans (awaited.trans (told.trans ?_))
    split
    · exact becomeArmed_eases s3
    · exact eases_of_keptFields rfl
  · exact ⟨s.batch, eases_of_keptFields rfl⟩

theorem commit_eases (p : Profile) (f : Flight) (s : State) : Eases { s with epoch := f.image.epoch } (commit p f s) := by
  unfold commit
  extract_lets changed dropped s1 s2 s3
  have applied : Eases { s with epoch := f.image.epoch } (handApply f s) := eases_of_keptFields rfl
  have moved : Eases (handApply f s) s1 := mapLives_eases (fun _ _ _ => committedLife_sheds) _
  clear_value s1
  have settling : Eases s1 { s1 with changed := changed } := eases_of_keptFields rfl
  have told : Eases { s1 with changed := changed } s2 := issueAll_eases _ _ _
  have swept : Eases s2 s3 := by
    unfold s3
    split
    · exact requestSweep_eases s2
    · rfl
  clear_value s3
  refine applied.trans (moved.trans (settling.trans (told.trans (swept.trans ?_))))
  split <;> exact eases_of_keptFields rfl

/-- A freeze moves the batch number and a commit the epoch number, and the freeze or commit test no more of what `Eases` keeps. -/
theorem cycleTest_eases (p : Profile) (cycle : CycleState) (holdoff : Bool) (s : State) :
    ∃ batch epoch, Eases { s with batch := batch, epoch := epoch } (cycleTest p cycle holdoff s) := by
  have same : ∃ batch epoch, Eases { s with batch := batch, epoch := epoch } s := ⟨s.batch, s.epoch, .refl s⟩
  unfold cycleTest
  split
  · exact same
  · split
    · split
      · obtain ⟨batch, h⟩ := freeze_eases p s
        exact ⟨batch, s.epoch, h⟩
      · exact same
    · split
      · exact ⟨s.batch, _, commit_eases p _ s⟩
      · exact same
    · split
      · exact ⟨s.batch, _, eases_of_keptFields rfl⟩
      · exact same
    · exact same
    · exact same

theorem countFrame_eases (p : Profile) (holdoff : Bool) (s : State) :
    Eases { s with frameCounter := s.frameCounter + 1 } (countFrame p holdoff s) := by
  have h : Eases s (mapLives (fun _ l => countedLife l) s) := mapLives_eases (fun _ _ _ => countedLife_sheds) s
  unfold countFrame
  generalize mapLives (fun _ l => countedLife l) s = u at h
  exact ⟨⟨h.device, h.pending, h.load, h.held⟩, h.internalCountdown, rfl, h.due, h.batch, h.epoch⟩

/-- Before its freeze or commit test a frame event moves the frame counter and sets what is due, and no more of what `Eases`
keeps. -/
theorem frameEvent_eases {p : Profile} {s : State} (h : s.device = .running p) (holdoff : Bool) (o : FrameOrder) :
    ∃ u due, frameEvent p holdoff o s = cycleTest p s.cycle holdoff u
      ∧ Eases { s with frameCounter := s.frameCounter + 1, due := due } u := by
  unfold frameEvent
  extract_lets counted s1 s2 now s3
  have counts : Eases { s with frameCounter := s.frameCounter + 1 } counted := countFrame_eases p holdoff s
  clear_value counted
  have hd : s1.device = .running p := counts.device.trans h
  have early : Eases { s1 with due := s1.due.diff o.early } s2 := foldl_takeExpiry_eases hd o.early
  have late : Eases { s2 with due := s2.due.diff now } s3 := foldl_takeExpiry_eases (early.device.trans hd) now
  exact ⟨s3, _, rfl, (counts.withDue _).trans ((early.withDue _).trans late)⟩

end Sys2Proof.Proofs
end

section
/-! PROOFS. Every command completes, leaves the queue of commands, and keeps the budgets and quotas: one lemma for each operation
of a command, on the relation `KeepsLimits`, and from them the statements about a step. -/

namespace Sys2Proof.Proofs

open Machine Safety Laws

/-! ### The relation -/

/-- The queue of commands stands, and the limits hold where they held. -/
structure KeepsLimits (s u : State) : Prop where
  queue  : u.pending = s.pending
  limits : WithinLimits s → WithinLimits u

/-- The outcome is a next state that keeps the queue and the limits of `s`. -/
def Completes (s : State) (o : Host.Outcome State Fault Refusal) : Prop := ∃ u, o = .next u ∧ KeepsLimits s u

@[refl] theorem KeepsLimits.refl (s : State) : KeepsLimits s s := ⟨rfl, id⟩

theorem KeepsLimits.trans {s u v : State} (h : KeepsLimits s u) (g : KeepsLimits u v) : KeepsLimits s v :=
  ⟨g.queue.trans h.queue, g.limits ∘ h.limits⟩

theorem profile?_eq_of_device {s u : State} (h : u.device = s.device) : u.profile? = s.profile? := by
  simp [State.profile?, h]

theorem device_of_profile? {s : State} {p : Profile} (h : s.profile? = some p) : s.device = .running p := by
  unfold State.profile? at h
  split at h <;> cases h
  assumption

theorem NoMore.keepsLimits {s u : State} (h : NoMore s u) : KeepsLimits s u where
  queue := h.pending
  limits w :=
    { budget := fun p hp d => (h.load d).trans (w.budget p (h.device ▸ hp) d)
      quota := fun p hp t d => (h.held t d).trans (w.quota p (h.device ▸ hp) t d)
      noLoad := fun hp d => Nat.le_zero.mp ((h.load d).trans (w.noLoad (profile?_eq_of_device h.device ▸ hp) d).le)
      noHeld := fun hp t d => Nat.le_zero.mp ((h.held t d).trans (w.noHeld (profile?_eq_of_device h.device ▸ hp) t d).le) }

theorem Eases.keepsLimits {s u : State} (h : Eases s u) : KeepsLimits s u := h.toNoMore.keepsLimits

/-- An update of none of the fields that the queue and the limits rest on. -/
theorem keepsLimits_of_same {s u : State} (device : u.device = s.device) (pending : u.pending = s.pending)
    (load : u.load = s.load) (held : u.held = s.held) : KeepsLimits s u :=
  NoMore.keepsLimits ⟨device, pending, fun _ => load ▸ le_rfl, fun _ _ => held ▸ le_rfl⟩

/-- With every sum at 0 the limits hold, whatever the device state. -/
theorem withinLimits_of_zero {s : State} (load : ∀ d, s.load.get d = 0) (held : ∀ (t : Tenant) d, s.held[t].get d = 0) :
    WithinLimits s :=
  ⟨fun _ _ d => (load d).trans_le (Nat.zero_le _), fun _ _ t d => (held t d).trans_le (Nat.zero_le _), fun _ => load,
    fun _ => held⟩

theorem zero_load (d : Direction) : (⟨0, 0⟩ : PerDir).get d = 0 := by cases d <;> rfl

theorem zero_held (t : Tenant) (d : Direction) : (Vector.replicate 4 (⟨0, 0⟩ : PerDir))[t].get d = 0 := by
  cases d <;> simp [PerDir.get]

theorem completes_next {s u : State} (h : KeepsLimits s u) : Completes s (.next u) := ⟨u, rfl, h⟩

/-- A command that first takes what the last frame event left due. -/
theorem Completes.of_settleDue {s : State} {o : Host.Outcome State Fault Refusal} (h : Completes (settleDue s) o) :
    Completes s o := by
  obtain ⟨u, rfl, hu⟩ := h
  exact completes_next ((settleDue_noMore s).keepsLimits.trans hu)

theorem completes_settled {f : State → State} (h : ∀ s, KeepsLimits s (f s)) (s : State) :
    Completes s (.next (f (settleDue s))) :=
  .of_settleDue (completes_next (h _))

/-! ### Staging -/

/-- What the fit checks have found when all four pass: the quota and the budget have room (R65, R71). -/
theorem fitChecks_room {p : Profile} {s : State} {a : Asked} {q : Placed} (h : fitChecks p s a = .ok q) :
    s.held[a.tenant].get a.direction + a.width ≤ (p.tenant a.tenant).quota a.direction
    ∧ s.load.get a.direction + q.load ≤ p.budget a.direction := by
  unfold fitChecks at h
  split at h
  · cases h
  split at h
  · cases h
  split at h
  · cases h
  split at h
  · cases h
    exact ⟨by omega, ‹_›⟩
  · cases h

/-- An entry outside the load set that passes the fit checks is staged within the limits. -/
theorem stage_keepsLimits {p : Profile} {s : State} {e : EntryIx} {a : Asked} {q : Placed} (hd : s.device = .running p)
    (he : (s.life e).loaded? = none) (hf : fitChecks p s a = .ok q) : KeepsLimits s (stage p e a q s) := by
  obtain ⟨held, load⟩ := fitChecks_room hf
  have hd' : (stage p e a q s).device = .running p := hd
  have profile : (stage p e a q s).profile? = some p := by simp [State.profile?, hd']
  refine ⟨rfl, fun w => ⟨fun p' hp d => ?_, fun p' hp t d => ?_, fun h => ?_, fun h => ?_⟩⟩
  · cases hd'.symm.trans hp
    have old := w.budget p hd d
    show (setLife e (.staged a q) s).load.get d ≤ _
    rw [setLife_load_get, Life.loadIn, Life.loadIn, he]
    by_cases h : a.direction = d
    · subst h
      simpa [Life.loaded?] using load
    · simpa [Life.loaded?, h] using old
  · cases hd'.symm.trans hp
    have old := w.quota p hd t d
    show (setLife e (.staged a q) s).held[t].get d ≤ _
    rw [setLife_held_get, Life.heldIn, Life.heldIn, he]
    by_cases h : a.tenant = t ∧ a.direction = d
    · obtain ⟨rfl, rfl⟩ := h
      simpa [Life.loaded?] using held
    · simpa [Life.loaded?, h] using old
  · simp [profile] at h
  · simp [profile] at h

/-! ### The evaluations of the Plan Engine -/

theorem fitFailed_eases {p : Profile} {e : EntryIx} {a : Asked} {q : PlaceAsk} {r : PendingReason} {s : State} :
    Eases s (fitFailed p e a q r s).1 := by
  unfold fitFailed
  split
  · rfl
  · split
    · rfl
    · exact (show Eases s (joinList p.rankMode e a s) from eases_of_keptFields rfl).trans (setLife_eases (.inl rfl))

theorem lowestFree_life {s : State} {e : EntryIx} (h : s.lowestFree = some e) : s.life e = .free := by
  simpa using List.find?_some h

theorem evalPlace_keepsLimits {p : Profile} {s : State} (hd : s.device = .running p) (t : Tenant) (f : PlaceFields) :
    KeepsLimits s (evalPlace p t f s).1 := by
  unfold evalPlace
  split
  · rfl
  split
  · rfl
  · next e hfree =>
    split
    · rfl
    extract_lets s1
    have bumped : KeepsLimits s s1 := keepsLimits_of_same rfl rfl rfl rfl
    have free : s1.life e = .free := by rw [bumpGeneration_life, lowestFree_life hfree]
    split
    · exact bumped
    split
    · next hfit => exact bumped.trans (stage_keepsLimits hd (by rw [free]; rfl) hfit)
    · exact bumped.trans fitFailed_eases.keepsLimits

theorem releaseFromBatch_eases (t : Tenant) (e : EntryIx) (s : State) : Eases s (releaseFromBatch t e s) := by
  unfold releaseFromBatch
  extract_lets s1
  have freed : Eases s s1 := (setLife_eases (.inl rfl)).trans (requestSweep_eases _)
  split
  · exact freed.trans ((leaveExpected_eases t s1).trans (proceed_eases _))
  · exact freed

theorem evalRelease_eases (p : Profile) (t : Tenant) (h : Handle) (s : State) : Eases s (evalRelease p t h s).1 := by
  unfold evalRelease
  split
  · rfl
  · next e _ =>
    split
    case h_2 => exact (setLife_eases (.inl rfl)).trans (requestSweep_eases _)
    case h_3 hl =>
      split
      · exact releaseFromBatch_eases t e s
      · exact setLife_eases (hl ▸ .inr rfl)
    case h_4 hl => exact setLife_eases (hl ▸ .inr rfl)
    all_goals rfl

theorem evalWithdraw_eases (p : Profile) (t : Tenant) (h : Handle) (s : State) : Eases s (evalWithdraw p t h s).1 := by
  unfold evalWithdraw
  split
  · rfl
  · next e _ =>
    split
    case h_1 => exact (leaveList_eases e s).trans (setLife_eases (.inl rfl))
    all_goals rfl

theorem evalQuerySpan_eases (p : Profile) (t : Tenant) (h : Handle) (s : State) : Eases s (evalQuerySpan p t h s).1 := by
  unfold evalQuerySpan
  split
  · rfl
  · exact eases_of_keptFields rfl

theorem evalQueryMap_eases (p : Profile) (t : Tenant) (x : BitVec 16 × Byte) (s : State) : Eases s (evalQueryMap p t x s).1 := by
  unfold evalQueryMap
  dsimp only
  split <;> rfl

theorem evalReady_eases (p : Profile) (t : Tenant) (batch : BitVec 16) (s : State) : Eases s (evalReady p t batch s).1 := by
  unfold evalReady
  split
  · rfl
  · exact (leaveExpected_eases t s).trans ((credit_eases t _ _).trans (proceed_eases _))

theorem evalRefuse_eases (p : Profile) (t : Tenant) (batch : BitVec 16) (s : State) : Eases s (evalRefuse p t batch s).1 := by
  unfold evalRefuse
  split
  · rfl
  · have proceeded : Eases s (proceed (charge p t 2 .refusal (withdrawPart t s)).1) :=
      (withdrawPart_eases t s).trans ((charge_eases p t 2 .refusal _).trans (proceed_eases _))
    dsimp only
    split
    · exact proceeded.trans (purge_eases t _)
    · exact proceeded

/-- The completion of a port's evaluation adds the response and the end of the evaluation to what its request does. -/
theorem completeFor_keepsLimits {α : Type} {select : EngineRequest → Option α}
    {eval : Profile → Tenant → α → State → State × Answer}
    (h : ∀ {p s}, s.device = .running p → ∀ t x, KeepsLimits s (eval p t x s).1) (s : State) :
    KeepsLimits s (completeFor select eval s) := by
  have answered (t : Tenant) (k : FrameKind) (x : State × Answer) :
      KeepsLimits x.1 { respond t k x.2 x.1 with inHand := none } := keepsLimits_of_same rfl rfl rfl rfl
  unfold completeFor
  split
  · next t p _ hp =>
    have hd := device_of_profile? hp
    split
    · split
      · refine KeepsLimits.trans ?_ (answered _ _ _)
        split
        · rfl
        · exact h hd _ _
      · rfl
    · rfl
  · rfl

theorem advance_eases (e : EntryIx) (s : State) : Eases s (advance e s) := eases_of_keptFields rfl

theorem stepOn_keepsLimits {p : Profile} {s : State} (hd : s.device = .running p) (e : EntryIx) :
    KeepsLimits s (stepOn p e s) := by
  unfold stepOn
  split
  · next a _ w hl =>
    split
    · exact (advance_eases e s).keepsLimits
    split
    · next q hfit =>
      have staged := stage_keepsLimits hd (e := e) (by rw [hl]; rfl) hfit
      exact staged.trans ((leaveList_eases e _).trans (issue_eases _ _ _)).keepsLimits
    · exact ((setLife_eases (.inl rfl)).trans (advance_eases e _)).keepsLimits
  all_goals exact (advance_eases e s).keepsLimits

theorem sweepStep_keepsLimits (s : State) : KeepsLimits s (sweepStep s) := by
  have ended (u : State) : KeepsLimits u (endStep u) := keepsLimits_of_same rfl rfl rfl rfl
  unfold sweepStep
  split
  · next p _ hp =>
    have hd := device_of_profile? hp
    split
    · exact (stepOn_keepsLimits hd _).trans (ended _)
    · exact ended s
    · exact ended s
  · rfl

theorem grantEngine_keepsLimits (s : State) : KeepsLimits s (grantEngine s) := by
  unfold grantEngine
  split
  · split
    · exact keepsLimits_of_same rfl rfl rfl rfl
    · rfl
  · rfl

/-! ### The tenant ports -/

theorem requestAccepted_completes (t : Tenant) (r : EngineRequest) (s : State) : Completes s (execRequestAccepted t r s) := by
  refine .of_settleDue ?_
  unfold execRequestAccepted
  generalize settleDue s = u
  dsimp only
  split
  · exact completes_next (.refl u)
  split
  · exact completes_next (keepsLimits_of_same rfl rfl rfl rfl)
  split
  · exact completes_next (keepsLimits_of_same rfl rfl rfl rfl)
  · exact completes_next (keepsLimits_of_same rfl rfl rfl rfl)

theorem takeNow_keepsLimits {act : State → State × Answer} (h : ∀ s, Eases s (act s).1) (t : Tenant) (k : FrameKind)
    (s : State) : KeepsLimits s (takeNow t k act s) := by
  unfold takeNow
  split
  · rfl
  extract_lets s1 p s2
  split
  · exact keepsLimits_of_same rfl rfl rfl rfl
  have emptied : Eases s s2 := eases_of_keptFields rfl
  have acted : Eases s2 (match requestCheck t k s2 with
      | some c => (s2, refusal c)
      | none => act s2).1 := by
    split
    · rfl
    · exact h s2
  exact (emptied.trans (acted.trans (setPort_eases _ _ _))).keepsLimits

theorem setMode_eases (t : Tenant) (m : PortMode) (s : State) : Eases s (setMode t m s) := setPort_eases _ _ _

theorem withdrawal_eases (t : Tenant) (m : PortMode) (s : State) : Eases s (withdrawal t m s) :=
  (setMode_eases t m s).trans (purge_eases t _)

theorem actMode_eases (t : Tenant) (target : Byte) (s : State) : Eases s (actMode t target s).1 := by
  unfold actMode
  split
  · rfl
  split
  case h_2 =>
    split
    · exact setMode_eases _ _ _
    · rfl
  case h_5 | h_7 | h_9 => exact setMode_eases _ _ _
  case h_11 => exact (setMode_eases _ _ _).trans (requestSweep_eases _)
  case h_13 | h_14 | h_15 | h_16 => exact withdrawal_eases _ _ _
  all_goals rfl

theorem actTrigger_eases (t : Tenant) (s : State) : Eases s (actTrigger t s).1 := by
  unfold actTrigger
  split
  · split
    · exact eases_of_keptFields rfl
    · rfl
  · rfl

theorem actReadLog_eases (start : BitVec 16) (limit : Byte) (s : State) : Eases s (actReadLog start limit s).1 := by
  unfold actReadLog
  dsimp only
  split
  · rfl
  split
  · rfl
  split <;> rfl

theorem actRecover_eases (t : Tenant) (s : State) : Eases s (actRecover t s).1 := by
  unfold actRecover
  split
  · rfl
  dsimp only
  split
  · rfl
  split
  · rfl
  · rfl
  split
  · exact takeRecovery_eases _ _ _ _
  · rfl

theorem actReadNotice_eases (t : Tenant) (s : State) : Eases s (actReadNotice t s).1 := by
  unfold actReadNotice
  split
  · rfl
  · exact setPort_eases _ _ _

theorem malformedFrame_completes (t : Tenant) (bytes : List Byte) (s : State) : Completes s (execMalformedFrame t bytes s) := by
  refine .of_settleDue ?_
  unfold execMalformedFrame
  dsimp only
  split
  · exact completes_next (.refl _)
  · exact completes_next (keepsLimits_of_same rfl rfl rfl rfl)

theorem chipSelect_completes (t : Tenant) (s : State) : Completes s (execChipSelectAsserted t s) := by
  refine .of_settleDue ?_
  unfold execChipSelectAsserted
  dsimp only
  split
  · exact completes_next (.refl _)
  · exact completes_next (setPort_eases _ _ _).keepsLimits

theorem fetch_completes (t : Tenant) (count : Nat) (s : State) : Completes s (execFetch t count s) := by
  refine .of_settleDue ?_
  unfold execFetch
  dsimp only
  split
  · exact completes_next (.refl _)
  · exact completes_next (setPort_eases _ _ _).keepsLimits

theorem portReset_completes (t : Tenant) (s : State) : Completes s (execPortReset t s) := by
  refine .of_settleDue ?_
  unfold execPortReset
  extract_lets u s1 s2 p s3
  have offline : Eases u s1 := setMode_eases t .offline u
  have purged : Eases s1 s2 := by
    unfold s2
    split
    · exact purge_eases t s1
    · rfl
  have cleared : Eases u s3 := offline.trans (purged.trans (setPort_eases _ _ _))
  clear_value s3
  refine completes_next (cleared.keepsLimits.trans ?_)
  split
  · exact keepsLimits_of_same rfl rfl rfl rfl
  · rfl

theorem portResetRelease_completes (t : Tenant) (s : State) : Completes s (execPortResetRelease t s) := by
  refine .of_settleDue ?_
  unfold execPortResetRelease
  dsimp only
  split
  · exact completes_next (setPort_eases _ _ _).keepsLimits
  · exact completes_next (.refl _)

/-! ### The plan link -/

theorem endImageSend_keepsLimits (s : State) : KeepsLimits s (endImageSend s) := by
  unfold endImageSend
  split
  · exact keepsLimits_of_same rfl rfl rfl rfl
  · rfl

theorem handWaiting_eases (s : State) : Eases s (handWaiting s) := by
  unfold handWaiting
  split
  · exact eases_of_keptFields rfl
  · rfl

theorem endFrameSend_keepsLimits (s : State) : KeepsLimits s (endFrameSend s) := by
  have sent (rest : List OutFrame) (bytes : List Byte) : Eases s { s with transmit := rest, pltx := bytes } :=
    eases_of_keptFields rfl
  unfold endFrameSend
  split
  · exact ((sent _ _).trans (handWaiting_eases _)).keepsLimits
  · exact ((sent _ _).trans (handWaiting_eases _)).keepsLimits
  · rfl

theorem takeAck_keepsLimits (epoch : BitVec 32) (send : Byte) (s : State) : KeepsLimits s (takeAck epoch send s) := by
  unfold takeAck
  split
  · split
    · exact keepsLimits_of_same rfl rfl rfl rfl
    · rfl
  · rfl

theorem refuseImage_eases (f : Flight) (s : State) : Eases s (refuseImage f s) := by
  unfold refuseImage
  split
  · exact imageFailed_eases f s
  · exact (show Eases s (handCancel f s) from eases_of_keptFields rfl).trans (imageFailed_eases f _)

theorem takeNak_keepsLimits (epoch : BitVec 32) (send : Byte) (s : State) : KeepsLimits s (takeNak epoch send s) := by
  have refused (f : Flight) : KeepsLimits s (if answers epoch send f then refuseImage f s else s) := by
    split
    · exact (refuseImage_eases f s).keepsLimits
    · rfl
  unfold takeNak
  split
  · exact refused _
  · exact refused _
  · rfl

/-! ### The Spectrum Monitor -/

theorem arriveReport_keepsLimits (bytes : List Byte) (strayBits : Bool) (s : State) :
    KeepsLimits s (arriveReport bytes strayBits s) := by
  unfold arriveReport
  dsimp only
  split
  · split <;> exact keepsLimits_of_same rfl rfl rfl rfl
  · exact keepsLimits_of_same rfl rfl rfl rfl

theorem joinAll_eases (vs : List Violation) (s : State) : Eases s (joinAll vs s).1 := by
  induction vs generalizing s with
  | nil => rfl
  | cons v vs ih => exact (show Eases s (joinLog v s).1 from eases_of_keptFields rfl).trans (ih _)

theorem notifyRecord_eases (v : Violation) (s : State) : Eases s (notifyRecord v s) := by
  unfold notifyRecord
  split
  · exact issue_eases _ _ s
  · rfl

theorem restartRecovery_eases (p : Profile) (t : Tenant) (s : State) : Eases s (restartRecovery p t s) := by
  obtain ⟨c, h⟩ := restartRecovery_frame p t s
  rw [h]
  exact eases_of_keptFields rfl

theorem handOver_eases (p : Profile) (t : Tenant) (blamed judged : Bool) (s : State) :
    Eases s (handOver p t blamed judged s).1 := by
  unfold handOver
  split
  · dsimp only
    split
    · exact restartRecovery_eases p t s
    · rfl
  split
  · rfl
  split
  · exact charge_eases p t 8 .violation s
  split
  · exact credit_eases t .cleanCredit s
  · rfl

theorem handOverAll_eases (p : Profile) (blamed judged : Tenant → Bool) (ts : List Tenant) (s : State) :
    Eases s (handOverAll p blamed judged ts s).1 := by
  induction ts generalizing s with
  | nil => rfl
  | cons t ts ih => exact (handOver_eases p t (blamed t) (judged t) s).trans (ih _)

theorem evaluateReport_eases (p : Profile) (r : Report) (rest : List Report) (s : State) :
    Eases s (evaluateReport p r rest s) := by
  unfold evaluateReport
  extract_lets judgements findings notify
  have logged := joinAll_eases (recordOrder.filterMap (mergeRecord s findings)) s
  generalize joinAll (recordOrder.filterMap (mergeRecord s findings)) s = joined at logged ⊢
  obtain ⟨s1, records⟩ := joined
  dsimp -zeta only
  extract_lets s2
  have notified : Eases s1 s2 := by
    unfold s2
    split
    · exact foldl_eases _ (fun s v => notifyRecord_eases v s) records s1
    · rfl
  rw [handOver_foldl]
  have handed := handOverAll_eases p (fun t => records.any fun v => decide (v.tenant = some t))
    (fun t => judgements.any fun j => decide (j.1 = some t)) allTenants s2
  generalize handOverAll _ _ _ _ _ = x at handed ⊢
  have taken (u : State) : Eases u { u with reports := rest, evaluating := !rest.isEmpty } := eases_of_keptFields rfl
  exact logged.trans (notified.trans (handed.trans ((taken x.1).trans (purgeAll_eases _ _))))

/-! ### The resets and the loads -/

theorem deviceReset_completes (s : State) : Completes s (execDeviceReset s) :=
  completes_next ⟨rfl, fun _ => withinLimits_of_zero zero_load zero_held⟩

theorem rstAsserted_iff (s : State) : s.rstAsserted = true ↔ s.device = .starting none := by
  simp [State.rstAsserted]

theorem rstRelease_completes (s : State) : Completes s (execRstRelease s) := by
  refine .of_settleDue ?_
  unfold execRstRelease
  generalize settleDue s = u
  dsimp only
  split
  · next h =>
    have stopped : u.profile? = none := by simp [State.profile?, (rstAsserted_iff u).mp h]
    exact completes_next ⟨rfl, fun w => withinLimits_of_zero (w.noLoad stopped) (w.noHeld stopped)⟩
  · exact completes_next (.refl u)

theorem reload_completes (s : State) : Completes s (execReload s) := by
  refine .of_settleDue ?_
  unfold execReload
  generalize settleDue s = u
  dsimp only
  split
  · exact completes_next (.refl u)
  · exact completes_next ⟨rfl, fun _ => withinLimits_of_zero zero_load zero_held⟩

theorem loadComplete_completes (memory : List Byte) (s : State) : Completes s (execLoadComplete memory s) := by
  refine .of_settleDue ?_
  unfold execLoadComplete
  generalize settleDue s = u
  dsimp only
  split
  · next kind hd =>
    have stopped : u.profile? = none := by simp [State.profile?, hd]
    have begun (d : Device) (staged : List Byte) (countdown : Option Nat) (cadence : Nat) (waiting : Option PlanImage) :
        KeepsLimits u { u with device := d, staged := staged, internalCountdown := countdown, cadence := cadence,
                               startUpWaiting := waiting } :=
      ⟨rfl, fun w => withinLimits_of_zero (w.noLoad stopped) (w.noHeld stopped)⟩
    split
    · exact completes_next ((begun _ _ _ _ _).trans (handWaiting_eases _).keepsLimits)
    · exact completes_next (begun _ _ _ _ _)
  · exact completes_next (.refl u)

/-! ### Frame events and expiries -/

theorem takeExpiry_keepsLimits (it : FrameItem) (s : State) : KeepsLimits s (takeExpiry it s) := by
  rcases running_or_stopped s with ⟨p, h⟩ | h
  · exact (show KeepsLimits s { s with due := s.due.erase it } from keepsLimits_of_same rfl rfl rfl rfl).trans
      (takeExpiry_eases h it).keepsLimits
  · rw [takeExpiry_stopped h]

theorem cycleTest_keepsLimits (p : Profile) (cycle : CycleState) (holdoff : Bool) (s : State) :
    KeepsLimits s (cycleTest p cycle holdoff s) := by
  obtain ⟨batch, epoch, h⟩ := cycleTest_eases p cycle holdoff s
  exact (show KeepsLimits s { s with batch := batch, epoch := epoch } from keepsLimits_of_same rfl rfl rfl rfl).trans h.keepsLimits

theorem frameEvent_keepsLimits {p : Profile} {s : State} (h : s.device = .running p) (holdoff : Bool) (o : FrameOrder) :
    KeepsLimits s (frameEvent p holdoff o s) := by
  obtain ⟨u, due, heq, hu⟩ := frameEvent_eases h holdoff o
  have counted : KeepsLimits s { s with frameCounter := s.frameCounter + 1, due := due } := keepsLimits_of_same rfl rfl rfl rfl
  rw [heq]
  exact counted.trans (hu.keepsLimits.trans (cycleTest_keepsLimits p s.cycle holdoff u))

theorem framePulse_completes (holdoff : Bool) (o : FrameOrder) (s : State) : Completes s (execFramePulse holdoff o s) := by
  refine .of_settleDue ?_
  unfold execFramePulse
  generalize settleDue s = u
  dsimp only
  split
  · next p hd =>
    split
    · exact completes_next (frameEvent_keepsLimits hd holdoff o)
    · exact completes_next (.refl u)
  · exact completes_next (.refl u)

theorem internalFrameCountdown_completes (holdoff : Bool) (o : FrameOrder) (s : State) :
    Completes s (execInternalFrameCountdown holdoff o s) := by
  refine .of_settleDue ?_
  unfold execInternalFrameCountdown
  generalize settleDue s = u
  dsimp only
  split
  · next p hd =>
    have event := frameEvent_keepsLimits hd holdoff o
    generalize frameEvent p holdoff o u = v at event ⊢
    split
    · exact completes_next (event.trans (keepsLimits_of_same rfl rfl rfl rfl))
    · exact completes_next (.refl u)
  · exact completes_next (.refl u)

theorem reportEvaluationBegin_completes (s : State) : Completes s (execReportEvaluationBegin s) := by
  refine .of_settleDue ?_
  unfold execReportEvaluationBegin
  dsimp only
  split
  · exact completes_next (keepsLimits_of_same rfl rfl rfl rfl)
  · exact completes_next (.refl _)

theorem reportEvaluation_completes (s : State) : Completes s (execReportEvaluation s) := by
  refine .of_settleDue ?_
  unfold execReportEvaluation
  dsimp only
  split
  · exact completes_next (evaluateReport_eases _ _ _ _).keepsLimits
  · exact completes_next (.refl _)

/-! ### Every command -/

theorem exec_completes (c : Instr) (s : State) : Completes s (exec c s) := by
  cases c with
  | deviceReset => exact deviceReset_completes s
  | rstRelease => exact rstRelease_completes s
  | reload => exact reload_completes s
  | loadComplete memory => exact loadComplete_completes memory s
  | framePulse holdoff order => exact framePulse_completes holdoff order s
  | internalFrameCountdown holdoff order => exact internalFrameCountdown_completes holdoff order s
  | cadenceExpiry => exact completes_next (takeExpiry_keepsLimits .cadence s)
  | prepareTimeout => exact completes_next (takeExpiry_keepsLimits .prepareTimeout s)
  | settleEnd => exact completes_next (takeExpiry_keepsLimits .settleEnd s)
  | holdExpiry e => exact completes_next (takeExpiry_keepsLimits (.hold e) s)
  | lapse e => exact completes_next (takeExpiry_keepsLimits (.lapse e) s)
  | paceExpiry t => exact completes_next (takeExpiry_keepsLimits (.pace t) s)
  | ackWaitExpiry => exact completes_next (takeExpiry_keepsLimits .ackWait s)
  | recoveryCountdownExpiry t => exact completes_next (takeExpiry_keepsLimits (.recovery t) s)
  | malformedFrame t bytes => exact malformedFrame_completes t bytes s
  | requestAccepted t r => exact requestAccepted_completes t r s
  | arbiterGrant => exact completes_settled grantEngine_keepsLimits s
  | place => exact completes_settled (completeFor_keepsLimits evalPlace_keepsLimits) s
  | release => exact completes_settled (completeFor_keepsLimits fun _ t x => (evalRelease_eases _ t x _).keepsLimits) s
  | withdraw => exact completes_settled (completeFor_keepsLimits fun _ t x => (evalWithdraw_eases _ t x _).keepsLimits) s
  | querySpan => exact completes_settled (completeFor_keepsLimits fun _ t x => (evalQuerySpan_eases _ t x _).keepsLimits) s
  | queryMap => exact completes_settled (completeFor_keepsLimits fun _ t x => (evalQueryMap_eases _ t x _).keepsLimits) s
  | ready => exact completes_settled (completeFor_keepsLimits fun _ t x => (evalReady_eases _ t x _).keepsLimits) s
  | refuse => exact completes_settled (completeFor_keepsLimits fun _ t x => (evalRefuse_eases _ t x _).keepsLimits) s
  | sweepStep => exact completes_settled sweepStep_keepsLimits s
  | status t => exact completes_settled (takeNow_keepsLimits (fun _ => setPort_eases _ _ _) t .status) s
  | mode t target => exact completes_settled (takeNow_keepsLimits (actMode_eases t target) t .mode) s
  | trigger t => exact completes_settled (takeNow_keepsLimits (actTrigger_eases t) t .trigger) s
  | readLog t start limit => exact completes_settled (takeNow_keepsLimits (actReadLog_eases start limit) t .readLog) s
  | recover t => exact completes_settled (takeNow_keepsLimits (actRecover_eases t) t .recover) s
  | readNotice t => exact completes_settled (takeNow_keepsLimits (actReadNotice_eases t) t .readNotice) s
  | setNoticeMask t mask => exact completes_settled (takeNow_keepsLimits (fun _ => setPort_eases _ _ _) t .setNoticeMask) s
  | fetch t count => exact fetch_completes t count s
  | portReset t => exact portReset_completes t s
  | portResetRelease t => exact portResetRelease_completes t s
  | imageSendEnd => exact completes_settled endImageSend_keepsLimits s
  | transmitFrameDone => exact completes_settled endFrameSend_keepsLimits s
  | ack epoch send => exact completes_settled (takeAck_keepsLimits epoch send) s
  | nak epoch send => exact completes_settled (takeNak_keepsLimits epoch send) s
  | plrxFrameDiscard bytes => exact completes_settled KeepsLimits.refl s
  | measurementReport bytes strayBits => exact completes_settled (arriveReport_keepsLimits bytes strayBits) s
  | reportEvaluationBegin => exact reportEvaluationBegin_completes s
  | reportEvaluation => exact reportEvaluation_completes s
  | chipSelectAsserted t => exact chipSelect_completes t s
  | reportTransferBegin => exact .of_settleDue (completes_next (keepsLimits_of_same rfl rfl rfl rfl))

/-- Settles O50, from what every command keeps: a life never moves to a greater load but where the fit checks staged it. -/
theorem stepKeepsLimits : Obligations.StepKeepsLimits := by
  intro s t _ within hstep
  unfold step at hstep
  split at hstep
  · cases hstep
    exact within
  · next c rest _ =>
    obtain ⟨u, heq, hu⟩ := exec_completes c { s with pending := rest }
    cases heq.symm.trans hstep
    exact hu.limits ⟨within.budget, within.quota, within.noLoad, within.noHeld⟩

/-! ### A command finds the last frame event over -/

theorem settleDue_settled_of_running {s : State} {p : Profile} (h : s.device = .running p) : Settled (settleDue s) :=
  (settleDue_eases h).due

theorem settleDue_settleDue {s : State} {p : Profile} (h : s.device = .running p) : settleDue (settleDue s) = settleDue s :=
  settleDue_settled _ (settleDue_settled_of_running h)

/-- Every command but an expiry and a device reset first settles the frame event. -/
theorem exec_settleDue {s : State} {p : Profile} (h : s.device = .running p) {c : Instr} (he : isExpiry c = false)
    (hr : c ≠ .deviceReset) : exec c s = exec c (settleDue s) := by
  have again := settleDue_settleDue h
  cases c with
  | deviceReset => exact absurd rfl hr
  | cadenceExpiry | prepareTimeout | settleEnd | holdExpiry | lapse | paceExpiry | ackWaitExpiry
  | recoveryCountdownExpiry => cases he
  | _ =>
    simp only [exec, execRstRelease, execReload, execLoadComplete, execFramePulse, execInternalFrameCountdown,
      execMalformedFrame, execRequestAccepted, execArbiterGrant, execPlace, execRelease, execWithdraw, execQuerySpan,
      execQueryMap, execReady, execRefuse, execSweepStep, execStatus, execMode, execTrigger, execReadLog, execRecover,
      execReadNotice, execSetNoticeMask, execFetch, execPortReset, execPortResetRelease, execImageSendEnd,
      execTransmitFrameDone, execAck, execNak, execPlrxFrameDiscard, execMeasurementReport, execReportEvaluationBegin,
      execReportEvaluation, execChipSelectAsserted, execReportTransferBegin, again]

/-- Settles O2, from what every command keeps and `exec_settleDue`. -/
theorem everyCommandCompletes : Obligations.EveryCommandCompletes := by
  refine ⟨fun c s => ?_, fun s p h => ⟨settleDue_settled_of_running h, fun c he hr => exec_settleDue h he hr⟩⟩
  obtain ⟨u, heq, hu⟩ := exec_completes c s
  exact ⟨u, heq, hu.queue⟩

end Sys2Proof.Proofs
end

section
/-! PROOFS. What the resets leave and what a load begins and ends with. -/

namespace Sys2Proof.Proofs

open Machine Safety Laws

/-! ### The device reset -/

theorem replicate_conduct (t : Tenant) : (Vector.replicate 4 resetConduct)[t] = resetConduct := by simp

theorem reset_life (e : EntryIx) : State.reset.life e = .free := by simp [State.reset, State.life, State.entry]

theorem reset_record (t : Tenant) : State.reset.record t = resetConduct := replicate_conduct t

theorem reset_port (t : Tenant) : State.reset.port t = resetPort := by simp [State.reset, State.port]

/-- Every kind of notice is enabled in the mask of a reset (R164). -/
theorem resetMask_getLsbD : ∀ k < 11, (0x7FF#11).getLsbD k = true := by decide

/-- Settles O3: the columns are read off `State.reset`. -/
theorem deviceResetLeaves : Obligations.DeviceResetLeaves := by
  intro s
  refine ⟨_, rfl, rfl, rfl, rfl, rfl, rfl, fun e => ?_, zero_load, zero_held, fun u => ?_, rfl, rfl, fun u => ?_, rfl, rfl,
    rfl, rfl, rfl, rfl, rfl, rfl, rfl, rfl, rfl, rfl, rfl, rfl, rfl, rfl, rfl, rfl, rfl, rfl, rfl, replicate_conduct, fun u => ?_⟩
  · simp [State.entry, State.reset]
  · simp [State.reset]
  · simp [State.reset]
  · simpa [State.port, State.attn, resetPort] using resetMask_getLsbD

theorem sum_replicate_eq_zero {n : Nat} {x : Entry} {f : Entry → Nat} (h : f x = 0) :
    ((Vector.replicate n x).toList.map f).sum = 0 := by
  simp [h]

/-- Where every entry is FREE every sum over a set is 0. -/
theorem sumsMatch_reset : SumsMatch State.reset where
  load d := (zero_load d).trans (sum_replicate_eq_zero (f := fun e => e.life.loadIn d) rfl).symm
  held t d := (zero_held t d).trans (sum_replicate_eq_zero (f := fun e => e.life.heldIn t d) rfl).symm
  count t := by
    have zero : State.reset.entryCount[t] = 0 := by simp [State.reset]
    exact zero.trans (sum_replicate_eq_zero (f := fun e => e.life.countIn t) rfl).symm

theorem reset_not_running (p : Profile) : State.reset.device ≠ .running p := nofun

theorem planClear_reset : PlanClear State.reset where
  apart p hp := absurd hp (reset_not_running p)
  empty _ e := by rw [reset_life]; rfl

theorem spansOk_reset : SpansOk State.reset where
  legal p hp := absurd hp (reset_not_running p)
  asked e a h := by rw [reset_life] at h; cases h
  direction p hp := absurd hp (reset_not_running p)
  placed e a q h := by rw [reset_life] at h; cases h
  ground p hp := absurd hp (reset_not_running p)
  empty _ := reset_life

theorem reset_waitList : State.reset.waitList = [] := rfl

theorem listOk_reset : ListOk State.reset where
  once := by simp [reset_waitList]
  pending e := by simp [reset_waitList, reset_life, isPending]
  bounded := by simp [reset_waitList]
  ranked p hp := absurd hp (reset_not_running p)
  empty _ := rfl
  position := nofun
  atEnd := nofun
  idle _ := nofun

theorem cycleOk_reset : CycleOk State.reset where
  lives e := by rw [reset_life]; rfl
  prepare := rfl
  settle := rfl
  changed _ := rfl
  expected := ⟨fun _ => nofun, fun _ => rfl⟩
  called _ := rfl
  subset := nofun
  armed := ⟨nofun, nofun⟩
  startUp := nofun
  flight := ⟨fun _ => rfl, fun _ => rfl⟩
  wait := rfl
  sending := nofun
  sent _ := rfl
  unsent _ := ⟨Nat.zero_le _, nofun⟩
  waiting := nofun
  noProfile _ := ⟨rfl, rfl⟩

theorem conductOk_reset : ConductOk State.reset where
  records t := by
    rw [reset_record]
    exact ⟨by decide, by decide, by decide, by decide⟩
  countdown p hp := absurd hp (reset_not_running p)
  clean _ := reset_record

theorem isolatedOut_reset : IsolatedOut State.reset where
  entries t h := by rw [reset_record] at h; cases h
  answer _ _ := nofun

theorem queuesOk_reset : QueuesOk State.reset where
  notices t := by rw [reset_port]; exact Nat.zero_le _
  log := Nat.zero_le _
  sequence := rfl
  reports := Nat.zero_le _
  transfer := nofun
  idle _ := rfl
  inHand := nofun

/-- Settles O57: nothing is in the table, in a list or in flight, and no countdown stands. -/
theorem resetMeetsInvariants : Obligations.ResetMeetsInvariants :=
  ⟨sumsMatch_reset, withinLimits_of_zero zero_load zero_held, planClear_reset, spansOk_reset, listOk_reset, cycleOk_reset, nofun,
    conductOk_reset, isolatedOut_reset, queuesOk_reset⟩

/-! ### The beginning of a load -/

theorem rstAsserted_eq_false {s : State} (h : s.device ≠ .starting none) : s.rstAsserted = false := by
  simp [State.rstAsserted, h]

/-- The transmit order a reload leaves: the frames that are no image, then CANCEL for the image in flight (R130). -/
theorem reloadTransmit_eq (s : State) : reloadTransmit s = (s.transmit.filter fun g => !OutFrame.isImage g)
    ++ (s.inFlight.map fun f => OutFrame.cancel f.image.epoch f.send).toList := by
  unfold reloadTransmit
  congr 1
  · refine List.filter_congr fun g _ => ?_
    cases g <;> rfl
  · cases s.inFlight <;> rfl

theorem beginReload_entry (s : State) (e : EntryIx) : (beginReload s).entry e = { s.entry e with life := .free } := by
  simp [beginReload, State.entry]

theorem beginReload_port (s : State) (t : Tenant) : (beginReload s).port t = (s.port t).cleared := by
  simp [beginReload, State.port]

theorem execRstRelease_asserted {s : State} (hs : Settled s) (h : s.device = .starting none) :
    exec .rstRelease s = .next { s with device := .starting (some .afterDeviceReset), staged := [] } := by
  simp [exec, execRstRelease, settleDue_settled s hs, (rstAsserted_iff s).mpr h]

theorem execReload_asserted {s : State} (hs : Settled s) (h : s.device = .starting none) : exec .reload s = .next s := by
  simp [exec, execReload, settleDue_settled s hs, (rstAsserted_iff s).mpr h]

theorem execReload_released {s : State} (hs : Settled s) (h : s.device ≠ .starting none) :
    exec .reload s = .next (beginReload s) := by
  simp [exec, execReload, settleDue_settled s hs, rstAsserted_eq_false h]

/-- Settles O4, from what `beginReload` leaves of each block. -/
theorem loadBegins : Obligations.LoadBegins := by
  refine ⟨fun s => execRstRelease_asserted, fun s => execReload_asserted, fun s hs h => ?_⟩
  refine ⟨_, execReload_released hs h, rfl, beginReload_entry s, zero_held, fun u => ⟨?_, ?_⟩, reloadTransmit_eq s,
    replicate_conduct, beginReload_port s⟩
  · simp [beginReload, clearMonitorAndConduct, clearCycle, clearPlan]
  · simp [beginReload, clearMonitorAndConduct, clearCycle, clearPlan]

/-! ### The completion of a load -/

theorem execLoadComplete_ok {s : State} {kind : LoadKind} {memory : List Byte} {p : Profile} (hs : Settled s)
    (hd : s.device = .starting (some kind)) (hc : checkImage (s.staged ++ readImage memory) = .ok p) :
    exec (.loadComplete memory) s = .next (loadSuccess kind p { s with staged := s.staged ++ readImage memory }) := by
  simp only [exec, execLoadComplete, settleDue_settled s hs, hd, hc]

theorem execLoadComplete_error {s : State} {kind : LoadKind} {memory : List Byte} {r : LoadFault} (hs : Settled s)
    (hd : s.device = .starting (some kind)) (hc : checkImage (s.staged ++ readImage memory) = .error r) :
    exec (.loadComplete memory) s = .next { s with device := .fault r, staged := [] } := by
  simp only [exec, execLoadComplete, settleDue_settled s hs, hd, hc]

theorem handWaiting_now {s : State} {image : PlanImage} (ht : s.transmit = []) (hw : s.startUpWaiting = some image) :
    handWaiting s = handImage image { s with startUpWaiting := none } := by
  simp only [handWaiting, ht, hw]

theorem handWaiting_later {s : State} (ht : s.transmit ≠ []) : handWaiting s = s := by
  unfold handWaiting
  split
  · next h _ => exact absurd h ht
  · rfl

theorem presented_blank (k n : Nat) : presented k (List.replicate n 0xFF) = List.replicate k 0xFF := by
  induction k generalizing n with
  | zero => rfl
  | succ k ih =>
    cases n with
    | zero => exact congrArg (0xFF :: ·) (ih 0)
    | succ n => exact congrArg (0xFF :: ·) (ih n)

/-- A blank memory has no format code, so the first check refuses it. -/
theorem lengthOk_blank {n : Nat} (h : 0 < n) : lengthOk (List.replicate n 0xFF) = false := by
  obtain ⟨n, rfl⟩ := Nat.exists_eq_succ_of_ne_zero h.ne'
  have code : u8 (List.replicate (n + 1) (0xFF : Byte)) 0 = 0xFF := by
    rw [List.replicate_succ]
    rfl
  rw [lengthOk, code]
  rfl

theorem checkImage_blank (n : Nat) : checkImage (readImage (List.replicate n 0xFF)) = .error .length := by
  have header : 0 < headerBytes := by decide
  rw [readImage, presented_blank, checkImage, if_pos (lengthOk_blank (lt_of_lt_of_le header (le_max_left _ _)))]

theorem loadSuccess_now {s : State} (ht : s.transmit = []) (kind : LoadKind) (p : Profile) :
    loadSuccess kind p s = handImage (startUpImage kind s) { s with
      device := .running p, staged := [], startUpWaiting := none, cadence := p.cadenceFrames
      internalCountdown := if p.frameSource = .internal then some p.framePeriod else none } :=
  handWaiting_now ht rfl

theorem loadSuccess_later {s : State} (ht : s.transmit ≠ []) (kind : LoadKind) (p : Profile) :
    loadSuccess kind p s = { s with
      device := .running p, staged := [], startUpWaiting := some (startUpImage kind s), cadence := p.cadenceFrames
      internalCountdown := if p.frameSource = .internal then some p.framePeriod else none } :=
  handWaiting_later ht

/-- Settles O5, by the outcome of the checks and whether the transmit order is empty. -/
theorem loadCompletes : Obligations.LoadCompletes := by
  refine ⟨fun s kind memory p hs hd hc => ?_, fun s kind memory r => execLoadComplete_error, fun s kind n hs hd hst => ?_⟩
  · intro image t
    rw [execLoadComplete_ok hs hd hc]
    by_cases ht : s.transmit = []
    · rw [loadSuccess_now (s := { s with staged := s.staged ++ readImage memory }) ht, if_pos ht]
      simp only [handImage, ht, List.nil_append]
      rfl
    · rw [loadSuccess_later (s := { s with staged := s.staged ++ readImage memory }) ht, if_neg ht]
      rfl
  · have blank : checkImage (s.staged ++ readImage (List.replicate n 0xFF)) = .error .length := by
      rw [hst, List.nil_append, checkImage_blank]
    rw [execLoadComplete_error hs hd blank, ← hst]

end Sys2Proof.Proofs
end

section
/-! PROOFS. A profile that passes the checks of a load is legal: what each field's reading says of its range, and what each
check says of the profile. -/

namespace Sys2Proof.Proofs

open Machine Safety Laws

/-! ### Fields -/

theorem within_bounds {lo hi x y : Nat} (h : within lo hi x = some y) : lo ≤ y ∧ y ≤ hi := by
  unfold within at h
  split at h <;> cases h
  assumption

theorem withinInt_bounds {lo hi x y : Int} (h : withinInt lo hi x = some y) : lo ≤ y ∧ y ≤ hi := by
  unfold withinInt at h
  split at h <;> cases h
  assumption

theorem u8_le (b : List Byte) (i : Nat) : u8 b i ≤ 255 := Nat.le_of_lt_succ (b.getD i 0).isLt

theorem capField_bounds {b : List Byte} {i : Nat} {cap : Option Int} (h : capField b i = some cap) :
    ∀ c, cap = some c → -8 ≤ c ∧ c ≤ 6 := by
  unfold capField at h
  split at h
  · cases h
    nofun
  · obtain ⟨c, hc, rfl⟩ := Option.map_eq_some_iff.mp h
    rintro _ ⟨⟩
    exact withinInt_bounds hc

theorem priorityField_bounds {b : List Byte} {i : Nat} {priority : Option Nat} (h : priorityField b i = some priority) :
    ∀ n, priority = some n → n ≤ 7 := by
  unfold priorityField at h
  split at h
  · cases h
    nofun
  · obtain ⟨n, hn, rfl⟩ := Option.map_eq_some_iff.mp h
    rintro _ ⟨⟩
    exact (within_bounds hn).2

/-! ### Records -/

theorem readRecords_length {α : Type} {read : List Byte → Option α} {size n : Nat} {b : List Byte} {xs : List α}
    (h : readRecords read size n b = some xs) : xs.length = n := by
  induction n generalizing b xs with
  | zero => cases h; rfl
  | succ n ih =>
    simp only [readRecords, Option.bind_eq_bind, Option.bind_eq_some_iff] at h
    obtain ⟨x, _, rest, hrest, ⟨⟩⟩ := h
    exact congrArg (· + 1) (ih hrest)

/-- What every record read from its bytes satisfies holds of all the records of a table. -/
theorem readRecords_forall {α : Type} {read : List Byte → Option α} {P : α → Prop} (hread : ∀ b x, read b = some x → P x)
    {size n : Nat} {b : List Byte} {xs : List α} (h : readRecords read size n b = some xs) : ∀ x ∈ xs, P x := by
  induction n generalizing b xs with
  | zero => cases h; nofun
  | succ n ih =>
    simp only [readRecords, Option.bind_eq_bind, Option.bind_eq_some_iff] at h
    obtain ⟨x, hx, rest, hrest, ⟨⟩⟩ := h
    exact List.forall_mem_cons.mpr ⟨hread _ x hx, ih hrest⟩

/-- A tenant record's fields in their ranges (R21). -/
structure TenantInRange (r : TenantRecord) : Prop where
  quotas     : ∀ d, r.quota d ≤ 1200
  entryQuota : 1 ≤ r.entryQuota ∧ r.entryQuota ≤ 64
  pace       : r.paceFrames ≤ 255
  ruleBlock  : r.ruleBase ≤ 63 ∧ r.ruleCount ≤ 64

theorem readTenant_inRange {b : List Byte} {r : TenantRecord} (h : readTenant b = some r) : TenantInRange r := by
  simp only [readTenant, Option.bind_eq_bind, Option.bind_eq_some_iff] at h
  obtain ⟨enabled, _, cls, _, up, hup, down, hdown, entries, hentries, may, _, base, hbase, count, hcount, ⟨⟩⟩ := h
  refine ⟨fun d => ?_, within_bounds hentries, u8_le b 7, (within_bounds hbase).2, (within_bounds hcount).2⟩
  cases d
  · exact (within_bounds hup).2
  · exact (within_bounds hdown).2

theorem readRegion_hi {b : List Byte} {r : Region} (h : readRegion b = some r) : r.hi ≤ 1199 := by
  simp only [readRegion, Option.bind_eq_bind, Option.bind_eq_some_iff] at h
  obtain ⟨lo, _, hi, hhi, dir, _, state, _, ⟨⟩⟩ := h
  exact (within_bounds hhi).2

/-- An admission rule's fields in their ranges (R21). -/
structure RuleInRange (r : AdmissionRule) : Prop where
  hi         : r.hi ≤ 1199
  minWidth   : r.minWidth ≤ 1200
  fixedWidth : r.fixedWidth ≤ 1200
  cap        : ∀ c, r.cap = some c → -8 ≤ c ∧ c ≤ 6
  priority   : ∀ n, r.priority = some n → n ≤ 7

theorem readRule_inRange {b : List Byte} {r : AdmissionRule} (h : readRule b = some r) : RuleInRange r := by
  simp only [readRule, Option.bind_eq_bind, Option.bind_eq_some_iff] at h
  obtain ⟨enabled, _, direction, _, lo, _, hi, hhi, least, hleast, fixed, hfixed, cap, hcap, priority, hpriority, action, _, ⟨⟩⟩ :=
    h
  exact ⟨(within_bounds hhi).2, (within_bounds hleast).2, (within_bounds hfixed).2, capField_bounds hcap,
    priorityField_bounds hpriority⟩

theorem readGuards_le {b : List Byte} {g : GuardTable} (h : readGuards b = some g) (x y : ServiceClass) : g.get x y ≤ 8 := by
  simp only [readGuards, Option.bind_eq_bind, Option.bind_eq_some_iff] at h
  obtain ⟨dd, hdd, di, hdi, dv, hdv, ii, hii, iv, hiv, vv, hvv, ⟨⟩⟩ := h
  cases x <;> cases y <;> exact (within_bounds ‹within 0 8 _ = some _›).2

/-! ### The image -/

/-- A profile's fields in their ranges (R21), its tables of the sizes the header gives. -/
structure ProfileInRange (p : Profile) (rules regions : Nat) : Prop where
  dsLo        : p.dsLo ≤ 1198
  dsBaseLim   : -8 ≤ p.dsBaseLim ∧ p.dsBaseLim ≤ 6
  tiltSpan    : p.tiltSpan ≤ 12
  usLim       : -8 ≤ p.usLim ∧ p.usLim ≤ 6
  budgets     : ∀ d, p.budget d ≤ 4892400
  guards      : ∀ x y, p.guards.get x y ≤ 8
  cadence     : 1 ≤ p.cadenceFrames ∧ p.cadenceFrames ≤ 4096
  prepare     : 1 ≤ p.prepareFrames ∧ p.prepareFrames ≤ 64
  settle      : p.settleFrames ≤ 255
  overMargin  : 1 ≤ p.overMargin ∧ p.overMargin ≤ 6
  stray       : -40 ≤ p.strayLimit ∧ p.strayLimit ≤ 20 ∧ p.strayReach ≤ 8
  recovery    : 1 ≤ p.recoveryFrames ∧ p.recoveryFrames ≤ 65535
  tenants     : ∀ t, TenantInRange (p.tenant t)
  regionCount : p.regions.length = regions
  regions     : ∀ r ∈ p.regions, r.hi ≤ 1199
  ruleCount   : p.rules.length = rules
  rules       : ∀ r ∈ p.rules, RuleInRange r

/-- Of the fields of an image 25 are read with a test, and each reads in the range that its test gives. -/
theorem readProfile_inRange {image : List Byte} {p : Profile} (h : readProfile image = some p) :
    ProfileInRange p (u8 image 6) (u8 image 5) := by
  unfold readProfile at h
  dsimp only at h
  iterate 25 obtain ⟨_, _, h⟩ := Option.bind_eq_some_iff.mp h
  cases h
  exact {
    dsLo := (within_bounds (by assumption)).2
    dsBaseLim := withinInt_bounds (by assumption)
    tiltSpan := (within_bounds (by assumption)).2
    usLim := withinInt_bounds (by assumption)
    budgets
      | .up => (within_bounds (by assumption)).2
      | .down => (within_bounds (by assumption)).2
    guards := readGuards_le (by assumption)
    cadence := within_bounds (by assumption)
    prepare := within_bounds (by assumption)
    settle := u8_le _ 26
    overMargin := withinInt_bounds (by assumption)
    stray :=
      have limit := withinInt_bounds (lo := -40) (hi := 20) (by assumption)
      ⟨limit.1, limit.2, (within_bounds (by assumption)).2⟩
    recovery := within_bounds (by assumption)
    tenants
      | 0 => readTenant_inRange (by assumption)
      | 1 => readTenant_inRange (by assumption)
      | 2 => readTenant_inRange (by assumption)
      | 3 => readTenant_inRange (by assumption)
    regionCount := readRecords_length (by assumption)
    regions := readRecords_forall (fun _ _ => readRegion_hi) (by assumption)
    ruleCount := readRecords_length (by assumption)
    rules := readRecords_forall (fun _ _ => readRule_inRange) (by assumption) }

/-! ### The checks -/

theorem allPairs_iff_pairwise {α : Type} (test : α → α → Bool) (l : List α) :
    allPairs test l = true ↔ l.Pairwise fun x y => test x y = true := by
  induction l with
  | nil => simp [allPairs]
  | cons x rest ih => simp [allPairs, ih]

/-- What stands behind a profile that the checks accept: each of the checks of R20. -/
structure Accepted (image : List Byte) (p : Profile) : Prop where
  length      : lengthOk image = true
  read        : readProfile image = some p
  directions  : directionsOk p = true
  regions     : regionsOk p = true
  ruleBlocks  : ruleBlocksOk p = true
  framePeriod : framePeriodOk p = true

theorem checkImage_accepted {image : List Byte} {p : Profile} (h : checkImage image = .ok p) : Accepted image p := by
  unfold checkImage at h
  split at h
  · cases h
  · next hlength =>
    split at h
    · cases h
    split at h
    · cases h
    · next q hread =>
      split at h
      · cases h
      · next hdirections =>
        split at h
        · cases h
        · next hregions =>
          split at h
          · cases h
          · next hblocks =>
            split at h
            · cases h
            · next hperiod =>
              cases h
              simp only [Bool.not_eq_false] at hlength hdirections hregions hblocks hperiod
              exact ⟨hlength, hread, hdirections, hregions, hblocks, hperiod⟩

/-- The counts that check 1 lets a header have. -/
theorem lengthOk_counts {image : List Byte} (h : lengthOk image = true) : u8 image 5 ≤ 16 ∧ u8 image 6 ≤ 64 := by
  simp only [lengthOk, Bool.and_eq_true, decide_eq_true_eq] at h
  obtain ⟨⟨⟨⟨_, regions⟩, rules⟩, _⟩, _⟩ := h
  exact ⟨regions, rules⟩

theorem regionsOk_iff (p : Profile) : regionsOk p = true ↔
    (∀ r ∈ p.regions, r.lo ≤ r.hi ∧ p.inDirection r.dir r.lo r.hi = true)
    ∧ p.regions.Pairwise fun a b => a.hi < b.lo ∨ b.hi < a.lo := by
  simp [regionsOk, allPairs_iff_pairwise]

/-- Two rule blocks share no rule (R20). -/
def BlocksApart (a b : TenantRecord) : Prop :=
  a.ruleCount = 0 ∨ b.ruleCount = 0 ∨ a.ruleBase + a.ruleCount ≤ b.ruleBase ∨ b.ruleBase + b.ruleCount ≤ a.ruleBase

theorem BlocksApart.symm {a b : TenantRecord} (h : BlocksApart a b) : BlocksApart b a := by
  unfold BlocksApart at *
  tauto

theorem ruleBlocksOk_iff (p : Profile) : ruleBlocksOk p = true ↔
    (∀ r ∈ p.rules, r.lo ≤ r.hi)
    ∧ (∀ r ∈ p.tenants.toList, r.ruleCount = 0 ∨ r.ruleBase + r.ruleCount ≤ p.rules.length)
    ∧ p.tenants.toList.Pairwise BlocksApart := by
  simp only [ruleBlocksOk, Bool.and_eq_true, Bool.or_eq_true, List.all_eq_true, decide_eq_true_eq, allPairs_iff_pairwise,
    and_assoc, or_assoc]
  rfl

theorem tenant_mem (p : Profile) (t : Tenant) : p.tenant t ∈ p.tenants.toList :=
  Vector.mem_toList_iff.mpr (Vector.getElem_mem t.isLt)

theorem blocksApart_of_pairwise {p : Profile} (h : p.tenants.toList.Pairwise BlocksApart) {t u : Tenant} (ne : t ≠ u) :
    BlocksApart (p.tenant t) (p.tenant u) := by
  have ordered {t u : Tenant} (lt : t.val < u.val) : BlocksApart (p.tenant t) (p.tenant u) :=
    List.pairwise_iff_getElem.mp h t.val u.val (by simp) (by simp) lt
  rcases Nat.lt_or_gt_of_ne (Fin.val_ne_of_ne ne) with lt | gt
  · exact ordered lt
  · exact (ordered gt).symm

/-- Settles O6: the ranges come from the reading of the image, the relations from the checks. -/
theorem loadedProfileIsLegal : Obligations.LoadedProfileIsLegal := by
  intro image p h
  have checks := checkImage_accepted h
  have ranges := readProfile_inRange checks.read
  obtain ⟨regionCount, ruleCount⟩ := lengthOk_counts checks.length
  obtain ⟨regions, oneRegion⟩ := (regionsOk_iff p).mp checks.regions
  obtain ⟨rules, blocks, ownBlocks⟩ := (ruleBlocksOk_iff p).mp checks.ruleBlocks
  have directions := checks.directions
  have framePeriod := checks.framePeriod
  simp only [directionsOk, decide_eq_true_eq] at directions
  simp only [framePeriodOk, Bool.or_eq_true, Bool.and_eq_true, decide_eq_true_eq] at framePeriod
  exact {
    split := ⟨directions, ranges.dsLo⟩
    dsBaseLim := ranges.dsBaseLim
    tiltSpan := ranges.tiltSpan
    usLim := ranges.usLim
    budgets := ranges.budgets
    guards := ranges.guards
    framePeriod := fun internal => framePeriod.resolve_left (by rw [internal]; nofun)
    cadence := ranges.cadence
    prepare := ranges.prepare
    settle := ranges.settle
    overMargin := ranges.overMargin
    stray := ranges.stray
    recovery := ranges.recovery
    quotas := fun t => (ranges.tenants t).quotas
    entryQuota := fun t => (ranges.tenants t).entryQuota
    pace := fun t => (ranges.tenants t).pace
    ruleBlocks := fun t => (ranges.tenants t).ruleBlock
    blocks := fun t => blocks _ (tenant_mem p t)
    ownBlocks := fun _ _ => blocksApart_of_pairwise ownBlocks
    regionCount := ranges.regionCount.trans_le regionCount
    regions := fun r hr => ⟨(regions r hr).1, ranges.regions r hr, (regions r hr).2⟩
    oneRegion := oneRegion
    ruleTable := ranges.ruleCount.trans_le ruleCount
    rules := fun r hr =>
      have rule := ranges.rules r hr
      ⟨rules r hr, rule.hi, rule.minWidth, rule.fixedWidth, rule.cap, rule.priority⟩ }

end Sys2Proof.Proofs
end

section
/-! PROOFS. What the three checks of R165 refuse, at a request's acceptance and at its completion in the Plan Engine. -/

namespace Sys2Proof.Proofs

open Machine Safety Laws

/-! ### The checks -/

theorem requestCheck_setPort (s : State) (t : Tenant) (k : FrameKind) (q : Port) (h : q.mode = (s.port t).mode) :
    requestCheck t k (s.setPort t q) = requestCheck t k s := by
  have device : (s.setPort t q).deviceState = s.deviceState := rfl
  simp only [requestCheck, device, setPort_record, setPort_port, h]

theorem requestCheck_notRunning {s : State} (h : s.deviceState ≠ .running) (t : Tenant) {k : FrameKind} (hk : k ≠ .status) :
    requestCheck t k s = some .notRunning := by
  simp [requestCheck, h, hk]

theorem deviceState_running {s : State} {p : Profile} (h : s.device = .running p) : s.deviceState = .running := by
  simp [State.deviceState, h]

theorem requestCheck_isolated {s : State} {p : Profile} {t : Tenant} (hd : s.device = .running p)
    (hi : (s.record t).isolated = true) {k : FrameKind} (hk : answeredIsolated k = false) :
    requestCheck t k s = some .isolated := by
  simp [requestCheck, deviceState_running hd, hi, hk]

theorem requestCheck_paused {s : State} {p : Profile} {t : Tenant} (hd : s.device = .running p)
    (hi : (s.record t).isolated = false) (hm : (s.port t).mode = .paused) : requestCheck t .place s = some .paused := by
  simp [requestCheck, deviceState_running hd, hi, hm, PortMode.allows]

theorem requestCheck_notAllowed {s : State} {p : Profile} {t : Tenant} (hd : s.device = .running p)
    (hi : (s.record t).isolated = false) {k : FrameKind} (ha : (s.port t).mode.allows k = false)
    (hm : (s.port t).mode ≠ .paused) : requestCheck t k s = some .notAllowed := by
  simp [requestCheck, deviceState_running hd, hi, ha, hm]

/-! ### A request refused at its acceptance -/

/-- A request that a check refuses is answered with the check's code, and nothing but the port changes. -/
theorem takeNow_refused {s : State} {t : Tenant} {c : ResponseCode} (h : Accepting s t) (k : FrameKind)
    (hc : requestCheck t k s = some c) (act : State → State × Answer) :
    takeNow t k act s = s.setPort t (answered k c .empty (k.length.getD 0) (s.port t)) := by
  have check (q : Port) (hq : q.mode = (s.port t).mode) : requestCheck t k (s.setPort t q) = some c :=
    (requestCheck_setPort s t k q hq).trans hc
  simp [takeNow, h.awake, endRequestFrame, h.empty, check, respond, answered, refusal]

/-- As `takeNow_refused`, of a command whose row takes its request at its acceptance. -/
theorem refused_at_acceptance {s : State} {t : Tenant} {c : ResponseCode} (h : Accepting s t) (k : FrameKind)
    (hc : requestCheck t k s = some c) (act : State → State × Answer) :
    (.next (takeNow t k act (settleDue s)) : Host.Outcome State Fault Refusal)
      = .next (s.setPort t (answered k c .empty (k.length.getD 0) (s.port t))) := by
  rw [settleDue_settled s h.settled, takeNow_refused h k hc]

/-- Outside RUNNING a request for the Plan Engine is answered at once (R24). -/
theorem requestAccepted_notRunning {s : State} {t : Tenant} (h : Accepting s t) (hd : s.deviceState ≠ .running)
    (r : EngineRequest) : exec (.requestAccepted t r) s
      = .next (s.setPort t (answered (requestKind r) .notRunning .empty ((requestKind r).length.getD 0) (s.port t))) := by
  simp [exec, execRequestAccepted, settleDue_settled s h.settled, h.awake, endRequestFrame, h.empty, hd, respond, answered, refusal]

/-! ### The statement -/

theorem answeredIsolated_requestKind (r : EngineRequest) : answeredIsolated (requestKind r) = false := by
  cases r <;> rfl

theorem offline_allows_no_evaluation (r : EngineRequest) : PortMode.offline.allows (requestKind r) = false := by
  cases r <;> rfl

theorem config_allows_queryMap_alone (r : EngineRequest) (h : ∀ lo count, r ≠ .queryMap lo count) :
    PortMode.config.allows (requestKind r) = false := by
  cases r with
  | queryMap lo count => exact absurd rfl (h lo count)
  | _ => rfl

/-- Settles O17: each clause is one outcome of the checks, placed at the acceptance or at the completion. -/
theorem refusedOutright : Obligations.RefusedOutright := by
  refine ⟨fun s t ha hd => ?_, fun s p t ha hd hi => ?_, fun s p t r he hi => ?_, fun s p t ha hd hi => ?_,
    fun s p t r he hi => ?_⟩
  · have refused (k : FrameKind) (hk : k ≠ .status) := refused_at_acceptance ha k (requestCheck_notRunning hd t hk)
    exact ⟨fun b => ⟨_, refused .mode (by decide) _⟩, ⟨_, refused .trigger (by decide) _⟩,
      fun x y => ⟨_, refused .readLog (by decide) _⟩, ⟨_, refused .recover (by decide) _⟩,
      ⟨_, refused .readNotice (by decide) _⟩, fun m => ⟨_, refused .setNoticeMask (by decide) _⟩, fun r => ⟨_, requestAccepted_notRunning ha hd r⟩⟩
  · have refused (k : FrameKind) (hk : answeredIsolated k = false) := refused_at_acceptance ha k (requestCheck_isolated hd hi hk)
    exact ⟨fun b => ⟨_, refused .mode rfl _⟩, ⟨_, refused .trigger rfl _⟩, fun m => ⟨_, refused .setNoticeMask rfl _⟩⟩
  · exact completion_refused he (requestCheck_isolated he.running hi (answeredIsolated_requestKind r))
  · have refused (k : FrameKind) (hk : (s.port t).mode.allows k = false) (hm : (s.port t).mode ≠ .paused) :=
      refused_at_acceptance ha k (requestCheck_notAllowed hd hi hk hm)
    refine ⟨fun hm => ?_, fun hm => ?_⟩
    · change (s.port t).mode = .offline at hm
      rw [hm] at refused
      exact ⟨fun x y => refused .readLog rfl nofun _, refused .readNotice rfl nofun _,
        fun m => refused .setNoticeMask rfl nofun _⟩
    · change (s.port t).mode = .offline ∨ (s.port t).mode = .config at hm
      rcases hm with hm | hm <;> rw [hm] at refused <;>
        exact ⟨refused .trigger rfl nofun _, refused .recover rfl nofun _⟩
  · have refused {c : ResponseCode} (hc : requestCheck t (requestKind r) s = some c) := completion_refused he hc
    refine ⟨fun f hr hm => ?_, fun hm => ?_, fun hm hr => ?_⟩
    · subst hr
      exact refused (requestCheck_paused he.running hi hm)
    · change (s.port t).mode = .offline at hm
      exact refused (requestCheck_notAllowed he.running hi (hm ▸ offline_allows_no_evaluation r) (hm ▸ nofun))
    · change (s.port t).mode = .config at hm
      exact refused (requestCheck_notAllowed he.running hi (hm ▸ config_allows_queryMap_alone r hr) (hm ▸ nofun))

end Sys2Proof.Proofs
end

section
/-! PROOFS. One frame event: what its counts make of each field, which expiries they bring about, and what HOLDOFF suspends. -/

namespace Sys2Proof.Proofs

open Machine Safety Laws

/-! ### The counts -/

/-- Counting an entry down adds to every sum what it took. -/
theorem countedLife_keeps {l l' : Life} (h : countedLife l = some l') :
    (∀ d, l'.loadIn d = l.loadIn d) ∧ (∀ t d, l'.heldIn t d = l.heldIn t d) ∧ ∀ t, l'.countIn t = l.countIn t := by
  unfold countedLife at h
  split at h <;> cases h <;> exact ⟨fun _ => rfl, fun _ _ => rfl, fun _ => rfl⟩

/-- A hold or wait limit that is present is counted down, and nothing else of a life. -/
theorem countedLife_getD (l : Life) : (countedLife l).getD l = match l with
    | .live a q left => .live a q (left.map (· - 1))
    | .pending a r left => .pending a r (left.map (· - 1))
    | l => l := by
  unfold countedLife
  split <;> rfl

theorem countFrame_table_only (p : Profile) (holdoff : Bool) (s : State) :
    countFrame p holdoff s = { s with
      table := (countFrame p holdoff s).table, frameCounter := s.frameCounter + 1
      pace := (countFrame p holdoff s).pace, conduct := (countFrame p holdoff s).conduct
      cadence := if p.triggerSource = .demand then s.cadence else s.cadence - 1
      prepareLeft := if s.cycle = .preparing then s.prepareLeft.map (· - 1) else s.prepareLeft
      settleLeft := if s.cycle = .settling then s.settleLeft.map (· - 1) else s.settleLeft
      ackWait := if s.link = .waitAck ∧ holdoff = false then s.ackWait.map (· + 1) else s.ackWait } := by
  have cadence : (if p.cadenceRuns then s.cadence - 1 else s.cadence)
      = if p.triggerSource = .demand then s.cadence else s.cadence - 1 := by
    by_cases h : p.triggerSource = .demand <;> simp [Profile.cadenceRuns, h]
  rw [← cadence]
  unfold countFrame
  rw [mapLives_kept (fun _ l => countedLife l) s (fun _ _ _ => countedLife_keeps)]

theorem countFrame_pace (p : Profile) (holdoff : Bool) (s : State) (t : Tenant) :
    (countFrame p holdoff s).pace[t] = s.pace[t] - 1 := by
  simp [countFrame]

theorem countFrame_record (p : Profile) (holdoff : Bool) (s : State) (t : Tenant) :
    (countFrame p holdoff s).record t = { s.record t with recovery := (s.record t).recovery.map (· - 1) } := by
  simp [countFrame, State.record, ConductRecord.counted]

theorem countFrame_entry (p : Profile) (holdoff : Bool) (s : State) (e : EntryIx) :
    (countFrame p holdoff s).entry e = (mapLives (fun _ l => countedLife l) s).entry e := by
  unfold countFrame
  generalize mapLives (fun _ l => countedLife l) s = u
  rfl

theorem countFrame_generation (p : Profile) (holdoff : Bool) (s : State) (e : EntryIx) :
    ((countFrame p holdoff s).entry e).generation = (s.entry e).generation := by
  rw [countFrame_entry, mapLives_generation]

theorem countFrame_life (p : Profile) (holdoff : Bool) (s : State) (e : EntryIx) :
    (countFrame p holdoff s).life e = match s.life e with
      | .live a q left => .live a q (left.map (· - 1))
      | .pending a r left => .pending a r (left.map (· - 1))
      | l => l := by
  rw [← countedLife_getD, State.life, countFrame_entry, mapLives_entry]

theorem countFrame_waitList (p : Profile) (holdoff : Bool) (s : State) : (countFrame p holdoff s).waitList = s.waitList := by
  rw [countFrame_table_only]

theorem countFrame_cycle (p : Profile) (holdoff : Bool) (s : State) : (countFrame p holdoff s).cycle = s.cycle := by
  rw [countFrame_table_only]

theorem countFrame_link (p : Profile) (holdoff : Bool) (s : State) : (countFrame p holdoff s).link = s.link := by
  rw [countFrame_table_only]

/-! ### The expiries that the counts bring about -/

theorem holdOut_iff (l : Life) : l.holdOut = true ↔ ∃ a q, l = .live a q (some 0) := by
  unfold Life.holdOut
  split <;> simp_all

theorem waitOut_iff (l : Life) : l.waitOut = true ↔ ∃ a r, l = .pending a r (some 0) := by
  unfold Life.waitOut
  split <;> simp_all

theorem mem_allTenants (t : Tenant) : t ∈ allTenants := by
  revert t
  decide

/-- A countdown that has run out by this frame event's count stood at 1. -/
theorem paceOut_iff (p : Profile) (holdoff : Bool) (s : State) (t : Tenant) :
    0 < s.pace[t] ∧ (countFrame p holdoff s).pace[t] = 0 ↔ s.pace[t] = 1 := by
  rw [countFrame_pace]
  omega

theorem recoveryOut_iff (p : Profile) (holdoff : Bool) (s : State) (t : Tenant) :
    0 < (s.record t).recovery.getD 0 ∧ ((countFrame p holdoff s).record t).recovery = some 0
      ↔ (s.record t).recovery = some 1 := by
  rw [countFrame_record]
  cases (s.record t).recovery with
  | none => simp
  | some n =>
    simp only [Option.getD_some, Option.map_some, Option.some.injEq]
    omega

theorem mem_dueAfter (p : Profile) (holdoff : Bool) (s : State) (it : FrameItem) :
    it ∈ dueAfter p s (countFrame p holdoff s) ↔ match it with
      | .cadence => p.triggerSource ≠ .demand ∧ (countFrame p holdoff s).cadence = 0
      | .hold e => ∃ a q, (countFrame p holdoff s).life e = .live a q (some 0)
      | .lapse e => e ∈ s.waitList ∧ ∃ a r, (countFrame p holdoff s).life e = .pending a r (some 0)
      | .pace t => s.pace[t] = 1
      | .recovery t => (s.record t).recovery = some 1
      | .prepareTimeout => s.cycle = .preparing ∧ (countFrame p holdoff s).prepareLeft = some 0
      | .settleEnd => s.cycle = .settling ∧ (countFrame p holdoff s).settleLeft = some 0
      | .ackWait => s.link = .waitAck ∧ (countFrame p holdoff s).ackWait = some 4 := by
  unfold dueAfter
  simp only [List.mem_append]
  cases it with
  | cadence => simp [Profile.cadenceRuns]
  | hold e => simp [State.entriesWith, allEntries, holdOut_iff]
  | lapse e => simp [countFrame_waitList, waitOut_iff]
  | pace t => simpa [mem_allTenants] using paceOut_iff p holdoff s t
  | recovery t => simpa [mem_allTenants] using recoveryOut_iff p holdoff s t
  | prepareTimeout => simp [countFrame_cycle]
  | settleEnd => simp [countFrame_cycle]
  | ackWait => simp [countFrame_link, Config.ackWaitMax]

/-! ### The frame event as a command -/

theorem frameEvent_internalCountdown {p : Profile} {s : State} (h : s.device = .running p) (holdoff : Bool) (o : FrameOrder) :
    (frameEvent p holdoff o s).internalCountdown = s.internalCountdown := by
  obtain ⟨u, due, heq, hu⟩ := frameEvent_eases h holdoff o
  obtain ⟨batch, epoch, hv⟩ := cycleTest_eases p s.cycle holdoff u
  rw [heq]
  exact hv.internalCountdown.trans hu.internalCountdown

/-- The command of the profile's frame source is one frame event; an internal countdown is loaded again with it (R13, R14). -/
theorem exec_frameCommand {p : Profile} {s : State} (hs : Settled s) (h : s.device = .running p) (holdoff : Bool) (o : FrameOrder) :
    exec (frameCommand p.frameSource holdoff o) s
      = .next { frameEvent p holdoff o s with internalCountdown := recounted p s.internalCountdown } := by
  cases hsource : p.frameSource with
  | external =>
    have kept := frameEvent_internalCountdown h holdoff o
    simp only [frameCommand, exec, execFramePulse, settleDue_settled s hs, h, hsource, if_true, recounted, ← kept]
  | internal => simp only [frameCommand, exec, execInternalFrameCountdown, settleDue_settled s hs, h, hsource, if_true, recounted]

theorem framePulse_ignored {s : State} (hs : Settled s) (h : ∀ p, s.device = .running p → p.frameSource = .internal)
    (holdoff : Bool) (o : FrameOrder) : exec (.framePulse holdoff o) s = .next s := by
  simp only [exec, execFramePulse, settleDue_settled s hs]
  split
  · next p hd => rw [if_neg (by rw [h p hd]; nofun)]
  · rfl

theorem internalFrameCountdown_ignored {s : State} (hs : Settled s) (h : ∀ p, s.device = .running p → p.frameSource = .external)
    (holdoff : Bool) (o : FrameOrder) : exec (.internalFrameCountdown holdoff o) s = .next s := by
  simp only [exec, execInternalFrameCountdown, settleDue_settled s hs]
  split
  · next p hd => rw [if_neg (by rw [h p hd]; nofun)]
  · rfl

/-- Settles O35, from the counts, `mem_dueAfter` and the command's equation. -/
theorem frameEventCounts : Obligations.FrameEventCounts := by
  refine ⟨fun s p holdoff hs hd => ?_, fun s holdoff o hs =>
    ⟨fun h => framePulse_ignored hs h holdoff o, fun h => internalFrameCountdown_ignored hs h holdoff o⟩⟩
  refine ⟨countFrame_table_only p holdoff s, fun t => ⟨countFrame_pace p holdoff s t, countFrame_record p holdoff s t⟩,
    fun e => ⟨countFrame_generation p holdoff s e, countFrame_life p holdoff s e⟩, fun o => ?_, mem_dueAfter p holdoff s⟩
  intro early now
  have same : now = early.due.filter fun it => !(o.late.contains it) || (decide (it = .cadence) && decide (s.cycle = .quiet)) := by
    refine List.filter_congr fun it _ => ?_
    simp [List.contains_eq_mem]
  rw [exec_frameCommand hs hd, same]
  rfl

/-! ### HOLDOFF -/

theorem countFrame_holdoff (p : Profile) (s : State) :
    countFrame p true s = { countFrame p false s with ackWait := s.ackWait } := by
  simp [countFrame]

theorem cycleTest_holdoff (p : Profile) (cycle : CycleState) (s : State) : cycleTest p cycle true s = s := rfl

/-- Settles O36: without the freeze or commit test a frame event has only counts and expiries, which leave both numbers. -/
theorem holdoffLeavesCountdowns : Obligations.HoldoffLeavesCountdowns := by
  refine ⟨fun p s => ⟨countFrame_holdoff p s, fun cycle => cycleTest_holdoff p cycle s⟩, fun s p o hs hd => ?_⟩
  obtain ⟨u, due, heq, hu⟩ := frameEvent_eases hd true o
  rw [cycleTest_holdoff] at heq
  refine ⟨_, exec_frameCommand hs hd true o, ?_⟩
  rw [heq]
  exact ⟨hu.frameCounter, hu.batch, hu.epoch⟩

end Sys2Proof.Proofs
end

section
/-! PROOFS. The running sums under a change of one entry's life. -/

namespace Sys2Proof.Proofs

open Machine Safety Laws

/-! ### The running sums -/

/-- Replacing a member of a list exchanges its own part of the sum. -/
theorem sum_set_exchange (l : List Nat) (n : Nat) (h : n < l.length) (x : Nat) : (l.set n x).sum + l[n] = l.sum + x := by
  have kept : l.sum = ((l.take n).sum + l[n]) + (l.drop (n + 1)).sum := by
    conv_lhs => rw [← List.set_getElem_self (as := l) (i := n) h, List.sum_set, if_pos h]
  rw [List.sum_set, if_pos h, kept]
  omega

/-- A new life exchanges the entry's own part of a sum over the table. -/
theorem setLife_sum (f : Life → Nat) (e : EntryIx) (l : Life) (s : State) :
    ((setLife e l s).table.toList.map fun x => f x.life).sum + f (s.life e) = (s.table.toList.map fun x => f x.life).sum + f l := by
  have len : e.val < (s.table.toList.map fun x => f x.life).length := by simp
  have exchange := sum_set_exchange _ e.val len (f l)
  simpa [setLife, State.life, State.entry, List.map_set, Vector.toList_set] using exchange

theorem setLife_entryCount (e : EntryIx) (l : Life) (s : State) (t : Tenant) :
    (setLife e l s).entryCount[t] = s.entryCount[t] + l.countIn t - (s.life e).countIn t := by
  simp [setLife]

/-- A sum that is its set's sum stays so when it exchanges the entry's old part for its new one. -/
theorem exchanged_sum {sum total total' new old : Nat} (h : sum = total) (exchange : total' + old = total + new) :
    sum + new - old = total' := by
  omega

theorem setLife_sumsMatch {e : EntryIx} {l : Life} {s : State} (h : SumsMatch s) : SumsMatch (setLife e l s) where
  load d := (setLife_load_get e l s d).trans (exchanged_sum (h.load d) (setLife_sum (·.loadIn d) e l s))
  held t d := (setLife_held_get e l s t d).trans (exchanged_sum (h.held t d) (setLife_sum (·.heldIn t d) e l s))
  count t := (setLife_entryCount e l s t).trans (exchanged_sum (h.count t) (setLife_sum (·.countIn t) e l s))

/-- Settles O18, from the exchange of one entry's part of each sum. -/
theorem entryMovesWithItsSums : Obligations.EntryMovesWithItsSums := fun s e l h =>
  ⟨rfl, setLife_entry s e l, fun x hx => setLife_entry_ne s e x l hx, setLife_sumsMatch h⟩

end Sys2Proof.Proofs
end

section
/-! PROOFS. What a command can do to the plan, the cycle and the plan link, said once: the relation `Happens` has one
constructor for each shared happening, and `Takes` says of every command which happenings it is made of. What every step
keeps is then proved of the happenings alone. -/

namespace Sys2Proof.Proofs

open Machine Safety Laws

/-! ### The part of the state that the plan and the cycle rest on -/

/-- The device, the Span Table with its sums, the cycle and the plan link of a state, everything else at its reset value. -/
def planOf (s : State) : State :=
  { State.reset with
    device := s.device, table := s.table, load := s.load, held := s.held, entryCount := s.entryCount
    cycle := s.cycle, batch := s.batch, epoch := s.epoch, expected := s.expected, called := s.called
    prepareLeft := s.prepareLeft, settleLeft := s.settleLeft, changed := s.changed
    link := s.link, inFlight := s.inFlight, ackWait := s.ackWait, transmit := s.transmit
    startUpWaiting := s.startUpWaiting }

section
variable {s u : State} (h : planOf u = planOf s)
include h

theorem planOf_life (e : EntryIx) : u.life e = s.life e := (congrArg (fun v : State => v.life e) h :)
theorem planOf_device : u.device = s.device := (congrArg State.device h :)
theorem planOf_table : u.table = s.table := (congrArg State.table h :)
theorem planOf_cycle : u.cycle = s.cycle := (congrArg State.cycle h :)
theorem planOf_epoch : u.epoch = s.epoch := (congrArg State.epoch h :)
theorem planOf_expected : u.expected = s.expected := (congrArg State.expected h :)

end

theorem foldl_planOf {α : Type} (f : State → α → State) (h : ∀ s x, planOf (f s x) = planOf s) (xs : List α) (s : State) :
    planOf (xs.foldl f s) = planOf s := by
  induction xs generalizing s with
  | nil => rfl
  | cons x xs ih => exact (ih (f s x)).trans (h s x)

theorem issueAll_planOf (ts : List Tenant) (body : NoticeBody) (s : State) : planOf (issueAll ts body s) = planOf s :=
  foldl_planOf (fun s t => issue t body s) (fun _ _ => rfl) ts s

theorem credit_planOf (t : Tenant) (cause : Cause) (s : State) : planOf (credit t cause s) = planOf s := by
  obtain ⟨c, q, h⟩ := credit_frame t cause s
  rw [h]
  rfl

theorem charge_planOf (p : Profile) (t : Tenant) (n : Nat) (cause : Cause) (s : State) :
    planOf (charge p t n cause s).1 = planOf s := by
  obtain ⟨c, q, h⟩ := charge_frame p t n cause s
  rw [h]
  rfl

theorem restartRecovery_planOf (p : Profile) (t : Tenant) (s : State) : planOf (restartRecovery p t s) = planOf s := by
  obtain ⟨c, h⟩ := restartRecovery_frame p t s
  rw [h]
  rfl

theorem chargeAll_planOf (p : Profile) (n : Nat) (cause : Cause) (ts : List Tenant) (s : State) :
    planOf (chargeAll p n cause ts s).1 = planOf s := by
  induction ts generalizing s with
  | nil => rfl
  | cons t ts ih => exact (ih _).trans (charge_planOf p t n cause s)

theorem handOver_planOf (p : Profile) (t : Tenant) (blamed judged : Bool) (s : State) :
    planOf (handOver p t blamed judged s).1 = planOf s := by
  unfold handOver
  split
  · dsimp only
    split
    · exact restartRecovery_planOf p t s
    · rfl
  split
  · rfl
  split
  · exact charge_planOf p t 8 .violation s
  split
  · exact credit_planOf t .cleanCredit s
  · rfl

theorem handOverAll_planOf (p : Profile) (blamed judged : Tenant → Bool) (ts : List Tenant) (s : State) :
    planOf (handOverAll p blamed judged ts s).1 = planOf s := by
  induction ts generalizing s with
  | nil => rfl
  | cons t ts ih => exact (ih _).trans (handOver_planOf p t (blamed t) (judged t) s)

theorem joinAll_planOf (vs : List Violation) (s : State) : planOf (joinAll vs s).1 = planOf s := by
  induction vs generalizing s with
  | nil => rfl
  | cons v vs ih => exact ih (joinLog v s).1

theorem notifyRecord_planOf (v : Violation) (s : State) : planOf (notifyRecord v s) = planOf s := by
  unfold notifyRecord
  split <;> rfl

/-! ### Who is isolated -/

/-- Whoever is isolated in `u` was so in `s`, or is one of `ts`. -/
def IsolatesOnly (ts : List Tenant) (s u : State) : Prop :=
  ∀ t, (u.record t).isolated = true → (s.record t).isolated = true ∨ t ∈ ts

theorem IsolatesOnly.of_conduct {s u : State} (h : u.conduct = s.conduct) (ts : List Tenant) : IsolatesOnly ts s u := by
  intro t ht
  rw [State.record, h] at ht
  exact .inl ht

theorem IsolatesOnly.trans {ts us : List Tenant} {s u v : State} (h : IsolatesOnly ts s u) (g : IsolatesOnly us u v) :
    IsolatesOnly (ts ++ us) s v := fun t ht => by
  rcases g t ht with hu | hu
  · exact (h t hu).imp_right (List.mem_append_left us)
  · exact .inr (List.mem_append_right ts hu)

/-- Replacing one tenant's record isolates no more than that tenant. -/
theorem isolatesOnly_setRecord {s : State} {t : Tenant} {c : ConductRecord} {ts : List Tenant}
    (h : c.isolated = true → (s.record t).isolated = true ∨ t ∈ ts) : IsolatesOnly ts s (s.setRecord t c) := by
  intro u hu
  rw [setRecord_record_eq] at hu
  split at hu
  · next same => exact same ▸ h hu
  · exact .inl hu

theorem IsolatesOnly.congr {ts : List Tenant} {s u v : State} (h : IsolatesOnly ts s u) (hv : v.conduct = u.conduct) :
    IsolatesOnly ts s v := fun t ht => h t (by rwa [State.record, hv] at ht)

theorem credit_isolatesOnly (t : Tenant) (cause : Cause) (s : State) : IsolatesOnly [] s (credit t cause s) := by
  unfold credit
  dsimp only
  split
  · exact .of_conduct rfl []
  · split
    · refine IsolatesOnly.congr (u := s.setRecord t _) ?_ rfl
      exact isolatesOnly_setRecord .inl
    · exact isolatesOnly_setRecord .inl

theorem foldl_issue_conduct (t : Tenant) (bodies : List NoticeBody) (s : State) :
    (bodies.foldl (fun s body => issue t body s) s).conduct = s.conduct := by
  obtain ⟨q, h⟩ := foldl_issue_one t bodies s
  rw [h]
  rfl

/-- A charge isolates its tenant at most, and says so. -/
theorem charge_isolatesOnly (p : Profile) (t : Tenant) (n : Nat) (cause : Cause) (s : State) :
    IsolatesOnly (if (charge p t n cause s).2 then [t] else []) s (charge p t n cause s).1 := by
  unfold charge
  extract_lets c m warn isolate c' notices
  split
  · exact .of_conduct rfl _
  · refine IsolatesOnly.congr (isolatesOnly_setRecord fun h => .inr ?_) (foldl_issue_conduct t notices _)
    have now : isolate = true := h
    simp [now]

theorem chargeAll_isolatesOnly (p : Profile) (n : Nat) (cause : Cause) (ts : List Tenant) (s : State) :
    IsolatesOnly (chargeAll p n cause ts s).2 s (chargeAll p n cause ts s).1 := by
  induction ts generalizing s with
  | nil => exact .of_conduct rfl []
  | cons t ts ih =>
    have first := (charge_isolatesOnly p t n cause s).trans (ih _)
    unfold chargeAll
    dsimp only
    split at first <;> simpa [*] using first

theorem restartRecovery_isolatesOnly (p : Profile) (t : Tenant) (s : State) : IsolatesOnly [] s (restartRecovery p t s) := by
  unfold restartRecovery
  dsimp only
  split
  · exact isolatesOnly_setRecord .inl
  · exact .of_conduct rfl []

theorem handOver_isolatesOnly (p : Profile) (t : Tenant) (blamed judged : Bool) (s : State) :
    IsolatesOnly (if (handOver p t blamed judged s).2 then [t] else []) s (handOver p t blamed judged s).1 := by
  unfold handOver
  split
  · change IsolatesOnly [] s (if blamed then restartRecovery p t s else s)
    split
    · exact restartRecovery_isolatesOnly p t s
    · exact .of_conduct rfl _
  split
  · exact .of_conduct rfl _
  split
  · exact charge_isolatesOnly p t 8 .violation s
  split
  · exact credit_isolatesOnly t .cleanCredit s
  · exact .of_conduct rfl _

theorem handOverAll_isolatesOnly (p : Profile) (blamed judged : Tenant → Bool) (ts : List Tenant) (s : State) :
    IsolatesOnly (handOverAll p blamed judged ts s).2 s (handOverAll p blamed judged ts s).1 := by
  induction ts generalizing s with
  | nil => exact .of_conduct rfl []
  | cons t ts ih =>
    have first := (handOver_isolatesOnly p t (blamed t) (judged t) s).trans (ih _)
    unfold handOverAll
    dsimp only
    split at first <;> simpa [*] using first

/-- The charges of a timeout, tenant by tenant, are `chargeAll`'s. -/
theorem charge_foldl (p : Profile) (n : Nat) (cause : Cause) (ts : List Tenant) (s : State) (isolated : List Tenant) :
    ts.foldl (fun (s, l) t => let (s', now) := charge p t n cause s; (s', if now then l ++ [t] else l)) (s, isolated)
      = ((chargeAll p n cause ts s).1, isolated ++ (chargeAll p n cause ts s).2) := by
  induction ts generalizing s isolated with
  | nil => simp [chargeAll]
  | cons t ts ih =>
    simp only [List.foldl_cons, ih, chargeAll]
    split <;> simp

/-! ### The happenings -/

/-- How the life of one entry moves by itself: a wait limit runs out or a request is withdrawn, a fit check fails again, a staged
span is released, a hold runs out or a live span is released, an addition of an armed batch is marked (R35, R37, R83, R86, R89). -/
inductive LifeMove (cycle : CycleState) : Life → Life → Prop
  | waiting (a : Asked) (r : PendingReason) (w : Option Nat) : LifeMove cycle (.pending a r w) .free
  | reasoned (a : Asked) (r r' : PendingReason) (w : Option Nat) : LifeMove cycle (.pending a r w) (.pending a r' w)
  | unstaged (a : Asked) (q : Placed) : LifeMove cycle (.staged a q) .free
  | retired (a : Asked) (q : Placed) (left : Option Nat) : LifeMove cycle (.live a q left) (.retiring a q false)
  | marked (a : Asked) (q : Placed) (b : BitVec 16) (f : Bool) (h : cycle ≠ .preparing) :
      LifeMove cycle (.adding a q b false f) (.adding a q b true f)

/-- An image in flight that an answer or the acknowledgement wait can still concern. -/
def Answerable (s : State) (f : Flight) : Prop := (s.link = .waitAck ∨ s.link = .acked) ∧ s.inFlight = some f

/-- The happenings that commands are made of, but for a PLACE's allocation, the freeze or commit test, and resets and loads. -/
inductive Happens : State → State → Prop
  /-- Nothing of the plan moves but by the purges of some tenants, who are the only ones that may just have been isolated. -/
  | beside {s u : State} (ts : List Tenant) (plan : planOf u = planOf s) (isolated : IsolatesOnly ts s u) :
      Happens s (purgeAll ts u)
  | moved {s : State} {e : EntryIx} {l : Life} (h : LifeMove s.cycle (s.life e) l) : Happens s (setLife e l s)
  | staged {s : State} {p : Profile} {e : EntryIx} {a : Asked} {r : PendingReason} {w : Option Nat} {q : Placed}
      (running : s.device = .running p) (pending : s.life e = .pending a r w) (fits : fitChecks p s a = .ok q) :
      Happens s (stage p e a q s)
  | counted (s : State) (p : Profile) (holdoff : Bool) : Happens s (countFrame p holdoff s)
  /-- A tenant answers READY (R105). -/
  | answered {s u : State} {t : Tenant} (preparing : s.cycle = .preparing) (plan : planOf u = planOf (leaveExpected t s))
      (isolated : IsolatesOnly [] s u) : Happens s (proceed u)
  /-- Tenants refuse, or are taken to, and those that the charges isolate are purged (R106, R107, R152). -/
  | refused {s u : State} {late : List Tenant} (ts : List Tenant) (preparing : s.cycle = .preparing)
      (awaited : ∀ t ∈ late, t ∈ s.expected) (plan : planOf u = planOf (late.foldl (fun s t => withdrawPart t s) s))
      (isolated : IsolatesOnly ts s u) : Happens s (purgeAll ts (proceed u))
  | released {s : State} {t : Tenant} {e : EntryIx} {a : Asked} {q : Placed} {b : BitVec 16} {f : Bool}
      (preparing : s.cycle = .preparing) (adding : s.life e = .adding a q b false f) : Happens s (releaseFromBatch t e s)
  | settled {s : State} (settling : s.cycle = .settling) : Happens s (endSettle s)
  | failed {s : State} {f : Flight} (answerable : Answerable s f) (batch : f.image.kind = .batch) : Happens s (imageFailed f s)
  | cancelled {s : State} {f : Flight} (answerable : Answerable s f) : Happens s (imageFailed f (handCancel f s))
  | imageSent (s : State) : Happens s (endImageSend s)
  | frameSent (s : State) : Happens s (endFrameSend s)
  | acknowledged {s : State} (wait : s.link = .waitAck) : Happens s { s with link := .acked, ackWait := none }

/-- Several happenings, one after the other. -/
abbrev Runs : State → State → Prop := Relation.ReflTransGen Happens

theorem Happens.runs {s u : State} (h : Happens s u) : Runs s u := .single h

/-- Nothing of the plan or of who is isolated moves. -/
theorem runs_beside {s u : State} (plan : planOf u = planOf s) (isolated : IsolatesOnly [] s u) : Runs s u :=
  (Happens.beside [] plan isolated).runs

theorem runs_aside {s u : State} (plan : planOf u = planOf s) (conduct : u.conduct = s.conduct) : Runs s u :=
  runs_beside plan (.of_conduct conduct [])

theorem runs_purge (t : Tenant) (s : State) : Runs s (purge t s) := (Happens.beside [t] rfl (.of_conduct rfl _)).runs

/-! ### The expiries -/

theorem holdOut_runs (e : EntryIx) (s : State) : Runs s (holdOut e s) := by
  unfold holdOut
  split
  · next h => exact (Happens.moved (h ▸ .retired _ _ _)).runs.trans (runs_aside rfl rfl)
  · exact .refl

theorem waitOut_runs (e : EntryIx) (s : State) : Runs s (waitOut e s) := by
  unfold waitOut
  split
  · next h =>
    have left : Runs s (leaveList e s) := runs_aside rfl rfl
    have freed : Runs (leaveList e s) (setLife e .free (leaveList e s)) :=
      (Happens.moved (by rw [show (leaveList e s).life e = s.life e from rfl, h]; exact .waiting _ _ _)).runs
    exact left.trans (freed.trans (runs_aside rfl rfl))
  · exact .refl

theorem takeRecovery_runs (p : Profile) (t : Tenant) (how : RecoveryHow) (s : State) : Runs s (takeRecovery p t how s) := by
  refine runs_beside rfl ?_
  rw [takeRecovery_eq]
  exact IsolatesOnly.congr (u := s.setRecord t resetConduct) (isolatesOnly_setRecord nofun) rfl

theorem timeOut_runs {s : State} (h : s.cycle = .preparing) (p : Profile) : Runs s (timeOut p s) := by
  have conduct (ts : List Tenant) (u : State) : (ts.foldl (fun s t => withdrawPart t s) u).conduct = u.conduct := by
    induction ts generalizing u with
    | nil => rfl
    | cons t ts ih =>
      obtain ⟨_, _, _, _, frame⟩ := withdrawPart_frame t u
      rw [List.foldl_cons, ih, frame]
  unfold timeOut
  dsimp only
  rw [charge_foldl]
  refine (Happens.refused _ h (fun _ => id) (chargeAll_planOf p 8 .timeout s.expected _) ?_).runs
  exact (IsolatesOnly.of_conduct (conduct _ _) []).trans (chargeAll_isolatesOnly p 8 .timeout s.expected _)

theorem ackWaitOut_runs (s : State) : Runs s (ackWaitOut s) := by
  unfold ackWaitOut
  split
  · next hl hf =>
    split
    · exact (Happens.cancelled ⟨.inl hl, hf⟩).runs
    · exact .refl
  · exact .refl

theorem expire_runs (p : Profile) (it : FrameItem) (s : State) : Runs s (expire p it s) := by
  cases it with
  | cadence =>
    simp only [expire, cadenceOut]
    split
    · exact runs_aside rfl rfl
    · exact .refl
  | hold e => exact holdOut_runs e s
  | lapse e => exact waitOut_runs e s
  | pace t => exact runs_aside rfl rfl
  | recovery t =>
    simp only [expire, recoveryOut]
    split
    · exact takeRecovery_runs p t .auto s
    · exact .refl
  | prepareTimeout =>
    simp only [expire, prepareOut]
    split
    · next h => exact timeOut_runs h.1 p
    · exact .refl
  | settleEnd =>
    simp only [expire, settleOut]
    split
    · next h => exact (Happens.settled h.1).runs
    · exact .refl
  | ackWait => exact ackWaitOut_runs s

theorem takeExpiry_runs (it : FrameItem) (s : State) : Runs s (takeExpiry it s) := by
  unfold takeExpiry
  split
  · next p _ =>
    split
    · exact (runs_aside (s := s) (u := { s with due := s.due.erase it }) rfl rfl).trans (expire_runs p it _)
    · exact .refl
  · exact .refl

theorem foldl_takeExpiry_runs (its : List FrameItem) (s : State) : Runs s (its.foldl (fun s it => takeExpiry it s) s) := by
  induction its generalizing s with
  | nil => exact .refl
  | cons it its ih => exact (takeExpiry_runs it s).trans (ih _)

theorem settleDue_runs (s : State) : Runs s (settleDue s) := foldl_takeExpiry_runs s.due s

/-- A frame event is its counts and expiries, then its freeze or commit test. -/
theorem frameEvent_runs (p : Profile) (holdoff : Bool) (o : FrameOrder) (s : State) :
    ∃ u, Runs s u ∧ frameEvent p holdoff o s = cycleTest p s.cycle holdoff u := by
  unfold frameEvent
  extract_lets counted s1 s2 now s3
  have counts : Runs s counted := (Happens.counted s p holdoff).runs
  clear_value counted
  have due : Runs counted s1 := runs_aside rfl rfl
  have early : Runs s1 s2 := foldl_takeExpiry_runs o.early s1
  have late : Runs s2 s3 := foldl_takeExpiry_runs now s2
  exact ⟨s3, counts.trans (due.trans (early.trans late)), rfl⟩

end Sys2Proof.Proofs
end

section
/-! PROOFS. Admission and the fit checks: how a PLACE's evaluation can end, what an admitted request satisfies, and what a placement
that passes the fit checks satisfies. -/

namespace Sys2Proof.Proofs

open Machine Safety Laws

/-! ### How a PLACE's evaluation ends -/

/-- The states that a PLACE's evaluation can leave (R52 to R74): the one it found; with the generation of a FREE entry moved on
alone; with that entry STAGED at a placement that passes the fit checks, or PENDING on the list. -/
inductive PlaceEnds (p : Profile) (t : Tenant) (f : PlaceFields) (s : State) : State → Prop
  | unmoved : PlaceEnds p t f s s
  | bumped {e : EntryIx} (free : s.life e = .free) : PlaceEnds p t f s (bumpGeneration e s)
  | granted {e : EntryIx} {q : PlaceAsk} {a : Asked} {b : Placed} (admitted : admission p t f = .ok (q, a))
      (free : s.life e = .free) (fits : fitChecks p s a = .ok b) : PlaceEnds p t f s (stage p e a b (bumpGeneration e s))
  | waiting {e : EntryIx} {q : PlaceAsk} {a : Asked} {r : PendingReason} (admitted : admission p t f = .ok (q, a))
      (free : s.life e = .free) :
      PlaceEnds p t f s (setLife e (.pending a r q.waitLimit) (joinList p.rankMode e a (bumpGeneration e s)))

theorem evalPlace_ends (p : Profile) (t : Tenant) (f : PlaceFields) (s : State) : PlaceEnds p t f s (evalPlace p t f s).1 := by
  unfold evalPlace
  split
  · exact .unmoved
  next q a admitted =>
  split
  · exact .unmoved
  next e hfree =>
  have free := lowestFree_life hfree
  split
  · exact .unmoved
  dsimp only
  split
  · exact .bumped free
  rw [bumpGeneration_fitChecks]
  split
  · next fits => exact .granted admitted free fits
  · unfold fitFailed
    split
    · exact .bumped free
    split
    · exact .bumped free
    · exact .waiting admitted free

/-! ### Runs of granules -/

theorem runOk_iff (test : Nat → Bool) (g w : Nat) : runOk test g w = true ↔ ∀ x, g ≤ x → x < g + w → test x = true := by
  induction w generalizing g with
  | zero =>
    simp only [runOk, true_iff]
    omega
  | succ w ih =>
    simp only [runOk, Bool.and_eq_true, ih]
    constructor
    · rintro ⟨first, rest⟩ x hx hw
      by_cases same : x = g
      · exact same ▸ first
      · exact rest x (by omega) (by omega)
    · exact fun h => ⟨h g le_rfl (by omega), fun x hx hw => h x (by omega) (by omega)⟩

/-! ### Placement -/

theorem placement_candidate {p : Profile} {s : State} {a : Asked} {g : Nat} (h : placement p s a = some g) :
    candidate p s a g = true := by
  unfold placement at h
  split at h
  · split at h
    · next hc =>
      cases h
      exact hc
    · cases h
  · exact List.find?_some h

/-- What a candidate is: in the window, clear of every span in the plan, on permitted ground (R66). -/
structure Candidate (p : Profile) (s : State) (a : Asked) (g : Nat) : Prop where
  inWindow : a.windowLo ≤ g ∧ g + a.width ≤ a.windowHi + 1
  clear    : ∀ x ∈ s.occupied, clearOf p a g x = true
  ground   : ∀ x, g ≤ x → x < g + a.width → p.permitted a.tenant x = true

theorem candidate_of_eq_true {p : Profile} {s : State} {a : Asked} {g : Nat} (h : candidate p s a g = true) : Candidate p s a g := by
  simp only [candidate, Bool.and_eq_true, decide_eq_true_eq, List.all_eq_true, runOk_iff] at h
  obtain ⟨⟨⟨lo, hi⟩, clear⟩, ground⟩ := h
  exact ⟨⟨lo, hi⟩, clear, ground⟩

theorem mem_occupied {s : State} {e : EntryIx} {x : Asked × Placed} (h : (s.life e).occupies? = some x) : x ∈ s.occupied :=
  List.mem_filterMap.mpr ⟨s.entry e, Vector.mem_toList_iff.mpr (Vector.getElem_mem e.isLt), h⟩

/-- The span that passes the fit checks is a candidate with the density and load found there. -/
theorem fitChecks_placed {p : Profile} {s : State} {a : Asked} {q : Placed} (h : fitChecks p s a = .ok q) :
    Candidate p s a q.first ∧ q = placedAt p a q.first := by
  unfold fitChecks at h
  split at h
  · cases h
  split at h
  · cases h
  split at h
  · cases h
  next g hg =>
  split at h
  · cases h
    exact ⟨candidate_of_eq_true (placement_candidate hg), rfl⟩
  · cases h

theorem guards_comm (g : GuardTable) (x y : ServiceClass) : g.get x y = g.get y x := by
  cases x <;> cases y <;> rfl

theorem gapAtLeast_comm (g a b c d : Nat) : gapAtLeast g a b c d = gapAtLeast g c d a b := Bool.or_comm _ _

/-- Two spans keep clear of each other or neither does (R6, R66). -/
theorem clearOf_comm (p : Profile) (a b : Asked) (q r : Placed) :
    clearOf p a q.first (b, r) = clearOf p b r.first (a, q) := by
  simp only [clearOf]
  rw [gapAtLeast_comm, guards_comm]
  congr 1
  exact if_congr (by rw [ne_comm, eq_comm (a := b.direction)]) rfl rfl

/-! ### Density -/

theorem densityLimit_least {p : Profile} (legal : LegalProfile p) (d : Direction) (g : Nat) : -8 ≤ densityLimit p d g := by
  cases d with
  | up => exact legal.usLim.1
  | down =>
    have base := legal.dsBaseLim.1
    exact le_min (by decide) (base.trans (le_add_of_nonneg_right (Int.natCast_nonneg _)))

/-- The granted density is in its range, and no more than the request, the cap and the limit (R69). -/
structure DensityGranted (p : Profile) (a : Asked) (g : Nat) (d : Int) : Prop where
  least   : -8 ≤ a.density → (∀ c, a.cap = some c → -8 ≤ c) → -8 ≤ densityLimit p a.direction g → -8 ≤ d
  request : d ≤ a.density
  cap     : ∀ c, a.cap = some c → d ≤ c
  limit   : d ≤ densityLimit p a.direction g

theorem grantedDensity_granted (p : Profile) (a : Asked) (g : Nat) : DensityGranted p a g (grantedDensity p a g) := by
  unfold grantedDensity
  cases hcap : a.cap with
  | none =>
    exact ⟨fun h _ hl => le_min h hl, min_le_left _ _, fun c hc => (nomatch hcap.symm.trans hc), min_le_right _ _⟩
  | some c =>
    refine ⟨fun h hc hl => le_min (le_min h hl) (hc c hcap), (min_le_left _ _).trans (min_le_left _ _), fun c' hc => ?_,
      (min_le_left _ _).trans (min_le_right _ _)⟩
    cases hcap.symm.trans hc
    exact min_le_right _ _

/-! ### Admission -/

/-- A request that an entry records is in its ranges (R26, R54, R58). -/
structure AskedInRange (a : Asked) : Prop where
  width    : 1 ≤ a.width ∧ a.width ≤ 1200
  density  : -8 ≤ a.density ∧ a.density ≤ 6
  priority : a.priority ≤ 7
  cap      : ∀ c, a.cap = some c → -8 ≤ c ∧ c ≤ 6
  window   : a.windowLo + a.width ≤ a.windowHi + 1

/-- A PLACE's fields as step 2 leaves them (R54). -/
structure AskInRange (q : PlaceAsk) : Prop where
  width    : 1 ≤ q.width ∧ q.width ≤ 1200
  density  : -8 ≤ q.density ∧ q.density ≤ 6
  priority : q.priority ≤ 7

theorem placeAsk_inRange {f : PlaceFields} {q : PlaceAsk} (h : placeAsk f = some q) : AskInRange q := by
  unfold placeAsk at h
  split at h
  · obtain ⟨⟨least, most, low, high, priority, _, _⟩, heq⟩ := Option.ite_none_right_eq_some.mp h
    cases heq
    exact ⟨⟨least, most⟩, ⟨low, high⟩, priority⟩
  · cases h

/-- The rule that an admission applied, with what the checks on its effects have found (R56 to R58). -/
theorem applyRules_ok {p : Profile} {t : Tenant} {q : PlaceAsk} {a : Asked} (h : applyRules p t q = .ok a) :
    ∃ r ∈ p.rules, a = reshaped t r q ∧ reshapedFits p r a = true := by
  unfold applyRules at h
  split at h
  · cases h
  next r hr =>
  have mem : r ∈ p.rules := List.mem_of_mem_drop (List.mem_of_mem_take (List.mem_of_find?_eq_some hr))
  split at h
  · cases h
  unfold reshape at h
  split at h
  · cases h
  split at h
  · next fits =>
    cases h
    exact ⟨r, mem, rfl, fits⟩
  · cases h

theorem reshaped_inRange {p : Profile} (legal : LegalProfile p) {t : Tenant} {r : AdmissionRule} {q : PlaceAsk} (hr : r ∈ p.rules)
    (hq : AskInRange q) (fits : reshapedFits p r (reshaped t r q) = true) : AskedInRange (reshaped t r q) := by
  obtain ⟨_, _, _, fixed, cap, priority⟩ := legal.rules r hr
  have width : 1 ≤ (reshaped t r q).width ∧ (reshaped t r q).width ≤ 1200 := by
    simp only [reshaped]
    split
    · exact ⟨‹_›, fixed⟩
    · exact hq.width
  refine ⟨width, hq.density, ?_, cap, ?_⟩
  · show r.priority.getD q.priority ≤ 7
    cases hp : r.priority with
    | none => exact hq.priority
    | some n => exact priority n hp
  · obtain ⟨positive, _⟩ := width
    cases hpl : q.placement with
    | exact =>
      simp only [reshaped, hpl] at positive ⊢
      omega
    | flex => simpa [reshapedFits, reshaped, hpl] using fits

theorem inDirection_mono {p : Profile} {d : Direction} {lo hi lo' hi' : Nat} (h : p.inDirection d lo hi = true) (hlo : lo ≤ lo')
    (hhi : hi' ≤ hi) : p.inDirection d lo' hi' = true := by
  cases d with
  | up =>
    simp only [Profile.inDirection, decide_eq_true_eq] at h ⊢
    omega
  | down =>
    simp only [Profile.inDirection, Bool.and_eq_true, decide_eq_true_eq] at h ⊢
    omega

theorem reshaped_inDirection {p : Profile} {t : Tenant} {r : AdmissionRule} {q : PlaceAsk}
    (hq : p.inDirection q.direction q.lo q.hi = true) (fits : reshapedFits p r (reshaped t r q) = true) :
    p.inDirection (reshaped t r q).direction (reshaped t r q).windowLo (reshaped t r q).windowHi = true := by
  cases hpl : q.placement with
  | exact =>
    have placed : (reshaped t r q).placement = .exact := hpl
    simp only [reshapedFits, placed, Bool.and_eq_true] at fits
    exact fits.2
  | flex =>
    refine inDirection_mono hq ?_ ?_
    · simp only [reshaped, hpl]
      exact le_max_left _ _
    · simp only [reshaped, hpl]
      exact min_le_left _ _

/-- A request admitted under a legal profile is in its ranges, and its window in its direction. -/
theorem admission_inRange {p : Profile} (legal : LegalProfile p) {t : Tenant} {f : PlaceFields} {q : PlaceAsk} {a : Asked}
    (h : admission p t f = .ok (q, a)) : AskedInRange a ∧ p.inDirection a.direction a.windowLo a.windowHi = true := by
  unfold admission at h
  split at h
  · cases h
  next q' ask =>
  split at h
  · cases h
  next geometry =>
  rw [Bool.not_eq_false, geometryOk, Bool.and_eq_true] at geometry
  split at h
  · cases h
  next b ruled =>
  obtain ⟨r, hr, rfl, fits⟩ := applyRules_ok ruled
  split at h
  · cases h
  cases h
  obtain ⟨width, density, priority, cap, window⟩ := reshaped_inRange legal hr (placeAsk_inRange ask) fits
  exact ⟨⟨width, density, priority, cap, window⟩, reshaped_inDirection geometry.1 fits⟩

end Sys2Proof.Proofs
end

section
/-! PROOFS. Which happenings each command is made of, and what every step keeps when the happenings keep it. -/

namespace Sys2Proof.Proofs

open Machine Safety Laws

/-! ### The evaluations of the Plan Engine -/

theorem releaseStaged_runs {s : State} {e : EntryIx} {a : Asked} {q : Placed} (h : s.life e = .staged a q) :
    Runs s (requestSweep (setLife e .free s)) :=
  (Happens.moved (h ▸ .unstaged a q)).runs.trans (runs_aside rfl rfl)

theorem evalRelease_runs (p : Profile) (t : Tenant) (h : Handle) (s : State) : Runs s (evalRelease p t h s).1 := by
  unfold evalRelease
  split
  · exact .refl
  · next e _ =>
    split
    case h_2 hl => exact releaseStaged_runs hl
    case h_3 hl =>
      split
      · next hc => exact (Happens.released hc hl).runs
      · next hc => exact (Happens.moved (hl ▸ .marked _ _ _ _ hc)).runs
    case h_4 hl => exact (Happens.moved (hl ▸ .retired _ _ _)).runs
    all_goals exact .refl

theorem evalWithdraw_runs (p : Profile) (t : Tenant) (h : Handle) (s : State) : Runs s (evalWithdraw p t h s).1 := by
  unfold evalWithdraw
  split
  · exact .refl
  · next e _ =>
    split
    case h_1 hl =>
      have left : Runs s (leaveList e s) := runs_aside rfl rfl
      have same : (leaveList e s).life e = s.life e := rfl
      exact left.trans (Happens.moved (by rw [same, hl]; exact .waiting _ _ _)).runs
    all_goals exact .refl

theorem evalQuerySpan_runs (p : Profile) (t : Tenant) (h : Handle) (s : State) : Runs s (evalQuerySpan p t h s).1 := by
  unfold evalQuerySpan
  split
  · exact .refl
  · exact runs_aside rfl rfl

theorem evalQueryMap_runs (p : Profile) (t : Tenant) (x : BitVec 16 × Byte) (s : State) : Runs s (evalQueryMap p t x s).1 := by
  unfold evalQueryMap
  dsimp only
  split <;> exact .refl

/-- What tests 3 and 4 of R104 find when they pass. -/
theorem batchCheck_eq_none {t : Tenant} {batch : BitVec 16} {s : State} (h : batchCheck t batch s = none) :
    s.cycle = .preparing ∧ t ∈ s.expected := by
  unfold batchCheck at h
  split at h
  · cases h
  · next current =>
    split at h
    · cases h
    · next awaited =>
      rw [not_or] at current
      exact ⟨not_not.mp current.1, not_not.mp awaited⟩

theorem evalReady_runs (p : Profile) (t : Tenant) (batch : BitVec 16) (s : State) : Runs s (evalReady p t batch s).1 := by
  unfold evalReady
  split
  · exact .refl
  · next h =>
    have isolated : IsolatesOnly [] s (leaveExpected t s) := .of_conduct rfl []
    exact (Happens.answered (batchCheck_eq_none h).1 (credit_planOf t .readyCredit _)
      (isolated.trans (credit_isolatesOnly t .readyCredit _))).runs

theorem withdrawPart_conduct (t : Tenant) (s : State) : (withdrawPart t s).conduct = s.conduct := by
  obtain ⟨_, _, _, _, frame⟩ := withdrawPart_frame t s
  rw [frame]

theorem evalRefuse_runs (p : Profile) (t : Tenant) (batch : BitVec 16) (s : State) : Runs s (evalRefuse p t batch s).1 := by
  unfold evalRefuse
  split
  · exact .refl
  · next h =>
    obtain ⟨preparing, awaited⟩ := batchCheck_eq_none h
    have isolated := (IsolatesOnly.of_conduct (withdrawPart_conduct t s) []).trans
      (charge_isolatesOnly p t 2 .refusal (withdrawPart t s))
    have run := (Happens.refused (late := [t]) _ preparing (by simpa using awaited)
      (charge_planOf p t 2 .refusal (withdrawPart t s)) isolated).runs
    dsimp only
    split
    · next now => simpa [now, purgeAll] using run
    · next now => simpa [now, purgeAll] using run

theorem requestCheck_notIsolated {t : Tenant} {r : EngineRequest} {s : State} (h : requestCheck t (requestKind r) s = none) :
    (s.record t).isolated = false := by
  by_contra isolated
  rw [Bool.not_eq_false] at isolated
  unfold requestCheck at h
  split at h
  · cases h
  · simp [answeredIsolated_requestKind] at h

/-- The completion of a port's evaluation: nothing, an answer alone, or what the evaluation of a tenant that is not isolated
does, with its answer. -/
theorem completeFor_cases {α : Type} (select : EngineRequest → Option α)
    (eval : Profile → Tenant → α → State → State × Answer)
    (s : State) : Runs s (completeFor select eval s)
      ∨ ∃ p t x, s.device = .running p ∧ (s.record t).isolated = false
          ∧ Runs (eval p t x s).1 (completeFor select eval s) := by
  unfold completeFor
  split
  · next t p _ hp =>
    split
    · next r _ =>
      split
      · next x _ =>
        cases check : requestCheck t (requestKind r) s with
        | some c => exact .inl (runs_aside rfl rfl)
        | none =>
          exact .inr ⟨p, t, x, device_of_profile? hp, requestCheck_notIsolated check, runs_aside rfl rfl⟩
      · exact .inl .refl
    · exact .inl .refl
  · exact .inl .refl

theorem completeFor_runs {α : Type} {select : EngineRequest → Option α}
    {eval : Profile → Tenant → α → State → State × Answer} (h : ∀ p t x s, Runs s (eval p t x s).1) (s : State) :
    Runs s (completeFor select eval s) := by
  obtain run | ⟨p, t, x, _, _, run⟩ := completeFor_cases select eval s
  · exact run
  · exact (h p t x s).trans run

/-! ### The sweep step -/

theorem stepOn_runs {p : Profile} {s : State} (hd : s.device = .running p) (e : EntryIx) : Runs s (stepOn p e s) := by
  have advanced (u : State) : Runs u (advance e u) := runs_aside rfl rfl
  unfold stepOn
  split
  · next hl =>
    split
    · exact advanced s
    split
    · next hfit => exact (Happens.staged hd hl hfit).runs.trans (runs_aside rfl rfl)
    · exact (Happens.moved (hl ▸ .reasoned _ _ _ _)).runs.trans (advanced _)
  all_goals exact advanced s

theorem sweepStep_runs (s : State) : Runs s (sweepStep s) := by
  have ended (u : State) : Runs u (endStep u) := runs_aside rfl rfl
  unfold sweepStep
  split
  · next hp =>
    split
    · exact (stepOn_runs (device_of_profile? hp) _).trans (ended _)
    · exact ended s
    · exact ended s
  · exact .refl

theorem grantEngine_runs (s : State) : Runs s (grantEngine s) := by
  unfold grantEngine
  split
  · split
    · exact runs_aside rfl rfl
    · exact .refl
  · exact .refl

/-! ### The tenant ports -/

theorem takeNow_runs {act : State → State × Answer} (h : ∀ s, Runs s (act s).1) (t : Tenant) (k : FrameKind) (s : State) :
    Runs s (takeNow t k act s) := by
  unfold takeNow
  split
  · exact .refl
  extract_lets s1 q s2
  split
  · exact runs_aside rfl rfl
  have emptied : Runs s s2 := runs_aside rfl rfl
  have acted : Runs s2 (match requestCheck t k s2 with
      | some c => (s2, refusal c)
      | none => act s2).1 := by
    split
    · exact .refl
    · exact h s2
  exact emptied.trans (acted.trans (runs_aside rfl rfl))

theorem setMode_runs (t : Tenant) (m : PortMode) (s : State) : Runs s (setMode t m s) := runs_aside rfl rfl

theorem withdrawal_runs (t : Tenant) (m : PortMode) (s : State) : Runs s (withdrawal t m s) :=
  (setMode_runs t m s).trans (runs_purge t _)

theorem actMode_runs (t : Tenant) (target : Byte) (s : State) : Runs s (actMode t target s).1 := by
  unfold actMode
  split
  · exact .refl
  split
  case h_2 =>
    split
    · exact setMode_runs _ _ _
    · exact .refl
  case h_5 | h_7 | h_9 => exact setMode_runs _ _ _
  case h_11 => exact (setMode_runs t .active s).trans (runs_aside (s := setMode t .active s) rfl rfl)
  case h_13 | h_14 | h_15 | h_16 => exact withdrawal_runs _ _ _
  all_goals exact .refl

theorem actTrigger_runs (t : Tenant) (s : State) : Runs s (actTrigger t s).1 := by
  unfold actTrigger
  split
  · split
    · exact runs_aside rfl rfl
    · exact .refl
  · exact .refl

theorem actReadLog_runs (start : BitVec 16) (limit : Byte) (s : State) : Runs s (actReadLog start limit s).1 := by
  unfold actReadLog
  dsimp only
  split
  · exact .refl
  split
  · exact .refl
  split <;> exact .refl

theorem actRecover_runs (t : Tenant) (s : State) : Runs s (actRecover t s).1 := by
  unfold actRecover
  split
  · exact .refl
  dsimp only
  split
  · exact .refl
  split
  · exact .refl
  · exact .refl
  split
  · exact takeRecovery_runs _ _ _ _
  · exact .refl

theorem actReadNotice_runs (t : Tenant) (s : State) : Runs s (actReadNotice t s).1 := by
  unfold actReadNotice
  split
  · exact .refl
  · exact runs_aside rfl rfl

theorem requestAccepted_runs (t : Tenant) (r : EngineRequest) (s : State) :
    ∃ u, execRequestAccepted t r s = .next u ∧ Runs (settleDue s) u := by
  unfold execRequestAccepted
  generalize settleDue s = v
  extract_lets _ s1 q
  have framed (q : Port) : Runs v (s1.setPort t q) := runs_aside rfl rfl
  split
  · exact ⟨v, rfl, .refl⟩
  split
  · exact ⟨_, rfl, framed _⟩
  split
  · exact ⟨_, rfl, (framed { q with response := none }).trans (runs_aside (s := s1.setPort t _) rfl rfl)⟩
  · exact ⟨_, rfl, framed _⟩

theorem malformedFrame_runs (t : Tenant) (bytes : List Byte) (s : State) :
    ∃ u, execMalformedFrame t bytes s = .next u ∧ Runs (settleDue s) u := by
  unfold execMalformedFrame
  generalize settleDue s = v
  dsimp only
  split
  · exact ⟨v, rfl, .refl⟩
  · exact ⟨_, rfl, runs_aside (s := v) rfl rfl⟩

theorem fetch_runs (t : Tenant) (count : Nat) (s : State) : ∃ u, execFetch t count s = .next u ∧ Runs (settleDue s) u := by
  unfold execFetch
  generalize settleDue s = v
  dsimp only
  split
  · exact ⟨v, rfl, .refl⟩
  · exact ⟨_, rfl, runs_aside (s := v) rfl rfl⟩

theorem chipSelect_runs (t : Tenant) (s : State) : ∃ u, execChipSelectAsserted t s = .next u ∧ Runs (settleDue s) u := by
  unfold execChipSelectAsserted
  generalize settleDue s = v
  dsimp only
  split
  · exact ⟨v, rfl, .refl⟩
  · exact ⟨_, rfl, runs_aside (s := v) rfl rfl⟩

theorem portReset_runs (t : Tenant) (s : State) : ∃ u, execPortReset t s = .next u ∧ Runs (settleDue s) u := by
  unfold execPortReset
  extract_lets v s1 s2 q s3
  have offline : Runs v s1 := setMode_runs t .offline v
  have purged : Runs s1 s2 := by
    unfold s2
    split
    · exact runs_purge t s1
    · exact .refl
  clear_value s2
  have cleared : Runs s2 s3 := runs_aside rfl rfl
  refine ⟨_, rfl, offline.trans (purged.trans (cleared.trans ?_))⟩
  split
  · exact runs_aside rfl rfl
  · exact .refl

/-! ### The plan link and the Spectrum Monitor -/

theorem takeAck_runs (epoch : BitVec 32) (send : Byte) (s : State) : Runs s (takeAck epoch send s) := by
  unfold takeAck
  split
  · next hl _ =>
    split
    · exact (Happens.acknowledged hl).runs
    · exact .refl
  · exact .refl

theorem refuseImage_runs {s : State} {f : Flight} (h : Answerable s f) : Runs s (refuseImage f s) := by
  unfold refuseImage
  split
  · next hk => exact (Happens.failed h hk).runs
  · exact (Happens.cancelled h).runs

theorem takeNak_runs (epoch : BitVec 32) (send : Byte) (s : State) : Runs s (takeNak epoch send s) := by
  have refused {f : Flight} (h : Answerable s f) : Runs s (if answers epoch send f then refuseImage f s else s) := by
    split
    · exact refuseImage_runs h
    · exact .refl
  unfold takeNak
  split
  · next hl hf => exact refused ⟨.inl hl, hf⟩
  · next hl hf => exact refused ⟨.inr hl, hf⟩
  · exact .refl

theorem arriveReport_runs (bytes : List Byte) (strayBits : Bool) (s : State) : Runs s (arriveReport bytes strayBits s) := by
  unfold arriveReport
  dsimp only
  split
  · split <;> exact runs_aside rfl rfl
  · exact runs_aside rfl rfl

theorem joinAll_conduct (vs : List Violation) (s : State) : (joinAll vs s).1.conduct = s.conduct := by
  induction vs generalizing s with
  | nil => rfl
  | cons v vs ih => exact ih (joinLog v s).1

theorem notifyRecord_conduct (v : Violation) (s : State) : (notifyRecord v s).conduct = s.conduct := by
  unfold notifyRecord
  split <;> rfl

theorem foldl_notifyRecord_conduct (vs : List Violation) (s : State) :
    (vs.foldl (fun s v => notifyRecord v s) s).conduct = s.conduct := by
  induction vs generalizing s with
  | nil => rfl
  | cons v vs ih => exact (ih _).trans (notifyRecord_conduct v s)

theorem evaluateReport_runs (p : Profile) (r : Report) (rest : List Report) (s : State) : Runs s (evaluateReport p r rest s) := by
  unfold evaluateReport
  extract_lets judgements findings notify
  have logged := joinAll_planOf (recordOrder.filterMap (mergeRecord s findings)) s
  have silent := joinAll_conduct (recordOrder.filterMap (mergeRecord s findings)) s
  generalize joinAll (recordOrder.filterMap (mergeRecord s findings)) s = joined at logged silent ⊢
  obtain ⟨s1, records⟩ := joined
  dsimp -zeta only
  extract_lets s2
  have notified : planOf s2 = planOf s1 ∧ s2.conduct = s1.conduct := by
    unfold s2
    split
    · exact ⟨foldl_planOf (fun s v => notifyRecord v s) (fun s v => notifyRecord_planOf v s) records s1,
        foldl_notifyRecord_conduct records s1⟩
    · exact ⟨rfl, rfl⟩
  rw [handOver_foldl]
  have plan := handOverAll_planOf p (fun t => records.any fun v => decide (v.tenant = some t))
    (fun t => judgements.any fun j => decide (j.1 = some t)) allTenants s2
  have isolated := handOverAll_isolatesOnly p (fun t => records.any fun v => decide (v.tenant = some t))
    (fun t => judgements.any fun j => decide (j.1 = some t)) allTenants s2
  generalize handOverAll _ _ _ _ _ = x at plan isolated ⊢
  have before : IsolatesOnly [] s s2 := .of_conduct (notified.2.trans silent) []
  rw [List.nil_append]
  have taken : planOf { x.1 with reports := rest, evaluating := !rest.isEmpty } = planOf x.1 := rfl
  exact (Happens.beside x.2 (taken.trans (plan.trans (notified.1.trans logged))) ((before.trans isolated).congr rfl)).runs

/-! ### Every command -/

/-- The state right after a device reset (R17, R25). -/
def afterReset (s : State) : State :=
  { State.reset with ports := s.ports.map fun p => { resetPort with prst := p.prst }, freeCount := s.freeCount, pending := s.pending }

/-- What a command takes a state to: happenings alone, or with them a reset, a load, a PLACE's evaluation, or a frame event with its
freeze or commit test. -/
inductive Takes : Instr → State → State → Prop
  | runs {c : Instr} {s u : State} (h : Runs s u) : Takes c s u
  | reset (s : State) : Takes .deviceReset s (afterReset s)
  /-- A load begins or fails: the device is not RUNNING before or after. -/
  | stopped {c : Instr} {s v : State} {d : Device} (before : Runs s v) (idle : v.profile? = none) (stays : ∀ p, d ≠ .running p) :
      Takes c s { v with device := d }
  | reloaded {s v : State} (before : Runs s v) : Takes .reload s (beginReload v)
  | started {c : Instr} {s v : State} {p : Profile} (kind : LoadKind) (before : Runs s v) (idle : v.profile? = none)
      (legal : LegalProfile p) : Takes c s (loadSuccess kind p v)
  | placed {s v w u : State} {p : Profile} {t : Tenant} {f : PlaceFields} (before : Runs s v) (running : v.device = .running p)
      (notIsolated : (v.record t).isolated = false) (ends : PlaceEnds p t f v w) (after : Runs w u) : Takes .place s u
  | framed {c : Instr} {s v w u : State} {p : Profile} (holdoff : Bool) (air : mayChangeAir c = true) (before : Runs s v)
      (running : v.device = .running p) (counts : Runs v w) (after : Runs (cycleTest p v.cycle holdoff w) u) : Takes c s u

/-- The command ends in a next state, which it takes `s` to. -/
def Ends (c : Instr) (s : State) (o : Host.Outcome State Fault Refusal) : Prop := ∃ u, o = .next u ∧ Takes c s u

theorem ends_runs {c : Instr} {s u : State} (h : Runs s u) : Ends c s (.next u) := ⟨u, rfl, .runs h⟩

theorem ends_settled {c : Instr} {f : State → State} (h : ∀ s, Runs s (f s)) (s : State) : Ends c s (.next (f (settleDue s))) :=
  ends_runs ((settleDue_runs s).trans (h _))

/-- A row that first takes what the last frame event left due. -/
theorem ends_of_runs {c : Instr} {s : State} {o : Host.Outcome State Fault Refusal}
    (h : ∃ u, o = .next u ∧ Runs (settleDue s) u) : Ends c s o := by
  obtain ⟨u, rfl, run⟩ := h
  exact ends_runs ((settleDue_runs s).trans run)

theorem starting_not_running (load : Option LoadKind) (p : Profile) : Device.starting load ≠ .running p := nofun

theorem fault_not_running (reason : LoadFault) (p : Profile) : Device.fault reason ≠ .running p := nofun

theorem rstRelease_ends (s : State) : Ends .rstRelease s (execRstRelease s) := by
  have before := settleDue_runs s
  unfold execRstRelease
  generalize settleDue s = v at before ⊢
  dsimp only
  split
  · next h =>
    have idle : v.profile? = none := by simp [State.profile?, (rstAsserted_iff v).mp h]
    have emptied : Runs v { v with staged := [] } := runs_aside (s := v) (u := { v with staged := [] }) rfl rfl
    exact ⟨_, rfl, .stopped (before.trans emptied) idle (starting_not_running _)⟩
  · exact ends_runs before

theorem reload_ends (s : State) : Ends .reload s (execReload s) := by
  have before := settleDue_runs s
  unfold execReload
  generalize settleDue s = v at before ⊢
  dsimp only
  split
  · exact ends_runs before
  · exact ⟨_, rfl, .reloaded before⟩

theorem loadComplete_ends (memory : List Byte) (s : State) : Ends (.loadComplete memory) s (execLoadComplete memory s) := by
  have before := settleDue_runs s
  unfold execLoadComplete
  generalize settleDue s = v at before ⊢
  dsimp only
  split
  · next kind hd =>
    have idle : v.profile? = none := by simp [State.profile?, hd]
    have read (staged : List Byte) : Runs s { v with staged := staged } :=
      before.trans (runs_aside (s := v) (u := { v with staged := staged }) rfl rfl)
    split
    · next p legal => exact ⟨_, rfl, .started kind (read _) idle (loadedProfileIsLegal _ p legal)⟩
    · exact ⟨_, rfl, .stopped (read []) idle (fault_not_running _)⟩
  · exact ends_runs before

theorem place_ends (s : State) : Ends .place s (execPlace s) := by
  refine ⟨_, rfl, ?_⟩
  obtain run | ⟨p, t, f, running, notIsolated, run⟩ :=
    completeFor_cases (fun r => match r with | .place f => some f | _ => none) evalPlace (settleDue s)
  · exact .runs ((settleDue_runs s).trans run)
  · exact .placed (settleDue_runs s) running notIsolated (evalPlace_ends p t f _) run

theorem framePulse_ends (holdoff : Bool) (o : FrameOrder) (s : State) :
    Ends (.framePulse holdoff o) s (execFramePulse holdoff o s) := by
  have before := settleDue_runs s
  unfold execFramePulse
  generalize settleDue s = v at before ⊢
  dsimp only
  split
  · next p hd =>
    split
    · obtain ⟨w, counts, heq⟩ := frameEvent_runs p holdoff o v
      exact ⟨_, rfl, .framed holdoff rfl before hd counts (heq ▸ .refl)⟩
    · exact ends_runs before
  · exact ends_runs before

theorem internalFrameCountdown_ends (holdoff : Bool) (o : FrameOrder) (s : State) :
    Ends (.internalFrameCountdown holdoff o) s (execInternalFrameCountdown holdoff o s) := by
  have before := settleDue_runs s
  unfold execInternalFrameCountdown
  generalize settleDue s = v at before ⊢
  dsimp only
  split
  · next p hd =>
    split
    · obtain ⟨w, counts, heq⟩ := frameEvent_runs p holdoff o v
      have loaded (u : State) : Runs u { u with internalCountdown := some p.framePeriod } :=
        runs_aside (s := u) (u := { u with internalCountdown := some p.framePeriod }) rfl rfl
      exact ⟨_, rfl, .framed holdoff rfl before hd counts (heq ▸ loaded _)⟩
    · exact ends_runs before
  · exact ends_runs before

theorem reportEvaluation_runs (s : State) : ∃ u, execReportEvaluation s = .next u ∧ Runs (settleDue s) u := by
  unfold execReportEvaluation
  dsimp only
  split
  · exact ⟨_, rfl, evaluateReport_runs _ _ _ _⟩
  · exact ⟨_, rfl, .refl⟩

theorem reportEvaluationBegin_runs (s : State) : ∃ u, execReportEvaluationBegin s = .next u ∧ Runs (settleDue s) u := by
  unfold execReportEvaluationBegin
  dsimp only
  split
  · exact ⟨_, rfl, runs_aside rfl rfl⟩
  · exact ⟨_, rfl, .refl⟩

theorem portResetRelease_runs (t : Tenant) (s : State) : ∃ u, execPortResetRelease t s = .next u ∧ Runs (settleDue s) u := by
  unfold execPortResetRelease
  dsimp only
  split
  · exact ⟨_, rfl, runs_aside rfl rfl⟩
  · exact ⟨_, rfl, .refl⟩

theorem exec_ends (c : Instr) (s : State) : Ends c s (exec c s) := by
  cases c with
  | deviceReset => exact ⟨_, rfl, .reset s⟩
  | rstRelease => exact rstRelease_ends s
  | reload => exact reload_ends s
  | loadComplete memory => exact loadComplete_ends memory s
  | framePulse holdoff order => exact framePulse_ends holdoff order s
  | internalFrameCountdown holdoff order => exact internalFrameCountdown_ends holdoff order s
  | cadenceExpiry => exact ends_runs (takeExpiry_runs .cadence s)
  | prepareTimeout => exact ends_runs (takeExpiry_runs .prepareTimeout s)
  | settleEnd => exact ends_runs (takeExpiry_runs .settleEnd s)
  | holdExpiry e => exact ends_runs (takeExpiry_runs (.hold e) s)
  | lapse e => exact ends_runs (takeExpiry_runs (.lapse e) s)
  | paceExpiry t => exact ends_runs (takeExpiry_runs (.pace t) s)
  | ackWaitExpiry => exact ends_runs (takeExpiry_runs .ackWait s)
  | recoveryCountdownExpiry t => exact ends_runs (takeExpiry_runs (.recovery t) s)
  | malformedFrame t bytes => exact ends_of_runs (malformedFrame_runs t bytes s)
  | requestAccepted t r => exact ends_of_runs (requestAccepted_runs t r s)
  | arbiterGrant => exact ends_settled grantEngine_runs s
  | place => exact place_ends s
  | release => exact ends_settled (completeFor_runs evalRelease_runs) s
  | withdraw => exact ends_settled (completeFor_runs evalWithdraw_runs) s
  | querySpan => exact ends_settled (completeFor_runs evalQuerySpan_runs) s
  | queryMap => exact ends_settled (completeFor_runs evalQueryMap_runs) s
  | ready => exact ends_settled (completeFor_runs evalReady_runs) s
  | refuse => exact ends_settled (completeFor_runs evalRefuse_runs) s
  | sweepStep => exact ends_settled sweepStep_runs s
  | status t => exact ends_settled (takeNow_runs (fun _ => runs_aside rfl rfl) t .status) s
  | mode t target => exact ends_settled (takeNow_runs (actMode_runs t target) t .mode) s
  | trigger t => exact ends_settled (takeNow_runs (actTrigger_runs t) t .trigger) s
  | readLog t start limit => exact ends_settled (takeNow_runs (actReadLog_runs start limit) t .readLog) s
  | recover t => exact ends_settled (takeNow_runs (actRecover_runs t) t .recover) s
  | readNotice t => exact ends_settled (takeNow_runs (actReadNotice_runs t) t .readNotice) s
  | setNoticeMask t mask => exact ends_settled (takeNow_runs (fun _ => runs_aside rfl rfl) t .setNoticeMask) s
  | fetch t count => exact ends_of_runs (fetch_runs t count s)
  | portReset t => exact ends_of_runs (portReset_runs t s)
  | portResetRelease t => exact ends_of_runs (portResetRelease_runs t s)
  | imageSendEnd => exact ends_settled (fun s => (Happens.imageSent s).runs) s
  | transmitFrameDone => exact ends_settled (fun s => (Happens.frameSent s).runs) s
  | ack epoch send => exact ends_settled (takeAck_runs epoch send) s
  | nak epoch send => exact ends_settled (takeNak_runs epoch send) s
  | plrxFrameDiscard bytes => exact ends_settled (f := id) (fun _ => .refl) s
  | measurementReport bytes strayBits => exact ends_settled (arriveReport_runs bytes strayBits) s
  | reportEvaluationBegin => exact ends_of_runs (reportEvaluationBegin_runs s)
  | reportEvaluation => exact ends_of_runs (reportEvaluation_runs s)
  | chipSelectAsserted t => exact ends_of_runs (chipSelect_runs t s)
  | reportTransferBegin => exact ends_settled (f := fun s => { s with transfer := some s.mready }) (fun _ => runs_aside rfl rfl) s

theorem takes_of_exec {c : Instr} {s u : State} (h : exec c s = .next u) : Takes c s u := by
  obtain ⟨v, heq, takes⟩ := exec_ends c s
  cases heq.symm.trans h
  exact takes

/-! ### What every step keeps -/

/-- The happenings, the resets, the loads, a PLACE's evaluation and the freeze or commit test keep a property of states. -/
structure KeptByAll (Inv : State → Prop) : Prop where
  happens  : ∀ {s u}, Happens s u → Inv s → Inv u
  reset    : Inv State.reset
  stopped  : ∀ {s d}, s.profile? = none → (∀ p, d ≠ .running p) → Inv s → Inv { s with device := d }
  reloaded : ∀ {s}, Inv s → Inv (beginReload s)
  started  : ∀ {s p} kind, s.profile? = none → LegalProfile p → Inv s → Inv (loadSuccess kind p s)
  placed   : ∀ {s u p t f}, s.device = .running p → (s.record t).isolated = false → PlaceEnds p t f s u → Inv s → Inv u
  tested   : ∀ {s u p} holdoff, s.device = .running p → Runs s u → Inv s → Inv u → Inv (cycleTest p s.cycle holdoff u)

theorem KeptByAll.runs {Inv : State → Prop} (k : KeptByAll Inv) {s u : State} (h : Runs s u) (hs : Inv s) : Inv u := by
  induction h with
  | refl => exact hs
  | tail _ one ih => exact k.happens one ih

theorem KeptByAll.takes {Inv : State → Prop} (k : KeptByAll Inv) {c : Instr} {s u : State} (h : Takes c s u) (hs : Inv s) :
    Inv u := by
  cases h with
  | runs h => exact k.runs h hs
  | reset => exact k.runs (runs_aside (s := State.reset) rfl rfl) k.reset
  | stopped before idle stays => exact k.stopped idle stays (k.runs before hs)
  | reloaded before => exact k.reloaded (k.runs before hs)
  | started kind before idle legal => exact k.started kind idle legal (k.runs before hs)
  | placed before running notIsolated ends after => exact k.runs after (k.placed running notIsolated ends (k.runs before hs))
  | framed holdoff _ before running counts after =>
    have begun := k.runs before hs
    exact k.runs after (k.tested holdoff running counts begun (k.runs counts begun))

/-- What all of these keep, every step keeps. -/
theorem KeptByAll.step {Inv : State → Prop} (k : KeptByAll Inv) (s t : State) (hs : Inv s) (h : step s = .next t) : Inv t := by
  unfold Machine.step at h
  split at h
  · cases h
    exact hs
  · next c rest _ =>
    have popped : Runs s { s with pending := rest } := runs_aside (s := s) (u := { s with pending := rest }) rfl rfl
    exact k.takes (takes_of_exec h) (k.runs popped hs)

end Sys2Proof.Proofs
end

section
/-! PROOFS. What every command makes of the lives in the Span Table: but for a grant, a request is dropped or stands as it was
asked, and its span is dropped or stands as it was placed. From this the running sums, the plan, the spans, what is on air and the
generations follow. -/

namespace Sys2Proof.Proofs

open Machine Safety Laws

/-! ### How lives move -/

/-- The entry is FREE again or holds the same request, and its span is out of the plan or as it was. -/
structure Fades (old new : Life) : Prop where
  asked    : new = .free ∨ new.asked? = old.asked?
  occupied : new.occupies? = none ∨ new.occupies? = old.occupies?

/-- As `Fades`, and the same span is on air, or none as before. -/
structure Rests (old new : Life) : Prop extends Fades old new where
  onAir : new.onAir? = old.onAir?

@[refl] theorem Rests.refl (l : Life) : Rests l l := ⟨⟨.inr rfl, .inr rfl⟩, rfl⟩

theorem Fades.refl (l : Life) : Fades l l := (Rests.refl l).toFades

theorem eq_free_iff (l : Life) : l = .free ↔ l.asked? = none := by cases l <;> simp [Life.asked?]

theorem Fades.trans {l l' l'' : Life} (h : Fades l l') (g : Fades l' l'') : Fades l l'' where
  asked := by
    rcases g.asked with g | g
    · exact .inl g
    rcases h.asked with h | h
    · rw [h] at g
      exact .inl ((eq_free_iff l'').mpr g)
    · exact .inr (g.trans h)
  occupied := by
    rcases g.occupied with g | g
    · exact .inl g
    rcases h.occupied with h | h
    · exact .inl (g.trans h)
    · exact .inr (g.trans h)

theorem Rests.trans {l l' l'' : Life} (h : Rests l l') (g : Rests l' l'') : Rests l l'' :=
  ⟨h.toFades.trans g.toFades, g.onAir.trans h.onAir⟩

/-- A FREE entry is given to nobody. -/
theorem Fades.free {l l' : Life} (h : Fades l l') (hl : l = .free) : l' = .free := by
  rcases h.asked with h | h
  · exact h
  · exact (eq_free_iff l').mpr (h.trans (hl ▸ rfl))

/-- A request that stands is the one that was asked. -/
theorem Fades.asked_eq {l l' : Life} (h : Fades l l') {a : Asked} (hl : l'.asked? = some a) : l.asked? = some a := by
  rcases h.asked with h | h
  · subst h
    cases hl
  · exact h ▸ hl

/-- A span that stands is the one that was placed. -/
theorem Fades.occupies_eq {l l' : Life} (h : Fades l l') {x : Asked × Placed} (hl : l'.occupies? = some x) :
    l.occupies? = some x := by
  rcases h.occupied with h | h
  · rw [h] at hl
    cases hl
  · exact h ▸ hl

theorem LifeMove.rests {cycle : CycleState} {l l' : Life} (h : LifeMove cycle l l') : Rests l l' := by
  cases h
  case waiting | unstaged => exact ⟨⟨.inl rfl, .inl rfl⟩, rfl⟩
  all_goals exact ⟨⟨.inr rfl, .inr rfl⟩, rfl⟩

theorem countedLife_rests {l l' : Life} (h : countedLife l = some l') : Rests l l' := by
  unfold countedLife at h
  split at h <;> cases h <;> exact ⟨⟨.inr rfl, .inr rfl⟩, rfl⟩

theorem frozenLife_rests {batch : BitVec 16} {l l' : Life} (h : frozenLife batch l = some l') : Rests l l' := by
  unfold frozenLife at h
  split at h <;> cases h <;> exact ⟨⟨.inr rfl, .inr rfl⟩, rfl⟩

theorem returnedLife_rests {l l' : Life} (h : returnedLife l = some l') : Rests l l' := by
  unfold returnedLife at h
  split at h <;> cases h <;> exact ⟨⟨.inr rfl, .inr rfl⟩, rfl⟩

theorem abandonedLife_rests {l l' : Life} (h : abandonedLife l = some l') : Rests l l' := by
  unfold abandonedLife at h
  split at h <;> cases h
  case h_1 => exact ⟨⟨.inl rfl, .inl rfl⟩, rfl⟩
  all_goals exact ⟨⟨.inr rfl, .inr rfl⟩, rfl⟩

theorem purgedLife_rests {cycle : CycleState} {l l' : Life} (h : purgedLife cycle l = some l') : Rests l l' := by
  unfold purgedLife at h
  split at h
  case h_2 | h_3 => cases h; exact ⟨⟨.inl rfl, .inl rfl⟩, rfl⟩
  case h_4 =>
    split at h <;> cases h
    · exact ⟨⟨.inl rfl, .inl rfl⟩, rfl⟩
    · exact ⟨⟨.inr rfl, .inr rfl⟩, rfl⟩
  case h_5 | h_6 | h_7 => cases h; exact ⟨⟨.inr rfl, .inr rfl⟩, rfl⟩
  case h_1 | h_8 => cases h

/-- A commit moves spans onto and off the air, and the spans stand where they are in the plan (R115). -/
theorem committedLife_fades {settleFrames : Nat} {l l' : Life} (h : committedLife settleFrames l = some l') : Fades l l' := by
  unfold committedLife at h
  split at h <;> cases h
  case h_3 =>
    split
    · exact ⟨.inr rfl, .inr rfl⟩
    · exact ⟨.inl rfl, .inl rfl⟩
  all_goals exact ⟨.inr rfl, .inr rfl⟩

/-! ### How the table moves -/

/-- Every life moves by `R` and keeps its generation, the device stands and the sums stay in step. -/
structure Moves (R : Life → Life → Prop) (s u : State) : Prop where
  device     : u.device = s.device
  generation : ∀ e, (u.entry e).generation = (s.entry e).generation
  lives      : ∀ e, R (s.life e) (u.life e)
  sums       : SumsMatch s → SumsMatch u

theorem Moves.mono {R R' : Life → Life → Prop} (h : ∀ l l', R l l' → R' l l') {s u : State} (m : Moves R s u) : Moves R' s u :=
  ⟨m.device, m.generation, fun e => h _ _ (m.lives e), m.sums⟩

theorem Moves.trans {s u v : State} (h : Moves Rests s u) (g : Moves Rests u v) : Moves Rests s v :=
  ⟨g.device.trans h.device, fun e => (g.generation e).trans (h.generation e), fun e => (h.lives e).trans (g.lives e),
    g.sums ∘ h.sums⟩

theorem sumsMatch_of_same {s u : State} (table : u.table = s.table) (load : u.load = s.load) (held : u.held = s.held)
    (count : u.entryCount = s.entryCount) (h : SumsMatch s) : SumsMatch u where
  load d := by rw [load, loadSum, table]; exact h.load d
  held t d := by rw [held, heldSum, table]; exact h.held t d
  count t := by rw [count, countSum, table]; exact h.count t

/-- An update of neither the device nor the table with its sums. -/
theorem moves_of_same {s u : State} (device : u.device = s.device) (table : u.table = s.table) (load : u.load = s.load)
    (held : u.held = s.held) (count : u.entryCount = s.entryCount) : Moves Rests s u where
  device := device
  generation e := by rw [State.entry, State.entry, table]
  lives e := by rw [State.life, State.life, State.entry, State.entry, table]
  sums := sumsMatch_of_same table load held count

theorem moves_of_plan {s u : State} (h : planOf u = planOf s) : Moves Rests s u :=
  moves_of_same (planOf_device h) (planOf_table h) (congrArg State.load h :) (congrArg State.held h :)
    (congrArg State.entryCount h :)

theorem Moves.refl (s : State) : Moves Rests s s := moves_of_same rfl rfl rfl rfl rfl

theorem setLife_moves {e : EntryIx} {l : Life} {s : State} (h : Rests (s.life e) l) : Moves Rests s (setLife e l s) where
  device := rfl
  generation := setLife_generation s e (l := l)
  lives x := by
    rw [setLife_life_eq]
    split
    · next same => exact same ▸ h
    · rfl
  sums := setLife_sumsMatch

theorem mapLives_sumsMatch (f : EntryIx → Life → Option Life) {s : State} (h : SumsMatch s) : SumsMatch (mapLives f s) := by
  have key (es : List EntryIx) : ∀ s, SumsMatch s →
      SumsMatch (es.foldl (fun s e => match f e (s.life e) with | some l => setLife e l s | none => s) s) := by
    induction es with
    | nil => exact fun s h => h
    | cons e es ih =>
      intro s h
      rw [List.foldl_cons]
      split
      · exact ih _ (setLife_sumsMatch h)
      · exact ih _ h
  exact key allEntries s h

theorem mapLives_device (f : EntryIx → Life → Option Life) (s : State) : (mapLives f s).device = s.device := by
  obtain ⟨_, _, _, _, h⟩ := mapLives_frame f s
  rw [h]

theorem mapLives_moves {R : Life → Life → Prop} (refl : ∀ l, R l l) {f : EntryIx → Life → Option Life}
    (h : ∀ e l l', f e l = some l' → R l l') (s : State) : Moves R s (mapLives f s) where
  device := mapLives_device f s
  generation := mapLives_generation f s
  lives e := by
    rw [mapLives_life]
    cases hf : f e (s.life e) with
    | none => exact refl _
    | some l => exact h e _ l hf
  sums := mapLives_sumsMatch f

theorem foldl_moves {α : Type} (f : State → α → State) (h : ∀ s x, Moves Rests s (f s x)) (xs : List α) (s : State) :
    Moves Rests s (xs.foldl f s) := by
  induction xs generalizing s with
  | nil => exact .refl s
  | cons x xs ih => exact (h s x).trans (ih (f s x))

/-- A move of one tenant's entries alone. -/
theorem ofTenant_rests {f : Life → Option Life} (h : ∀ l l', f l = some l' → Rests l l') (t : Tenant) {l l' : Life}
    (hl : (if l.tenant? = some t then f l else none) = some l') : Rests l l' := by
  split at hl
  · exact h l l' hl
  · cases hl

/-! ### The shared operations -/

theorem leaveExpected_moves (t : Tenant) (s : State) : Moves Rests s (leaveExpected t s) := moves_of_same rfl rfl rfl rfl rfl

theorem proceed_moves (s : State) : Moves Rests s (proceed s) := by
  obtain ⟨_, _, _, _, _, _, _, _, _, h⟩ := proceed_frame s
  rw [h]
  exact moves_of_same rfl rfl rfl rfl rfl

theorem withdrawPart_moves (t : Tenant) (s : State) : Moves Rests s (withdrawPart t s) :=
  (mapLives_moves Rests.refl (fun _ _ _ => ofTenant_rests (fun _ _ => returnedLife_rests) t) s).trans
    (leaveExpected_moves t _)

theorem purge_moves (t : Tenant) (s : State) : Moves Rests s (purge t s) := by
  unfold purge
  extract_lets waiting s1 s2 s3 s4
  have out : Moves Rests s s1 := foldl_moves (fun s e => leaveList e s) (fun _ _ => moves_of_plan rfl) waiting s
  have moved : Moves Rests s1 s2 :=
    mapLives_moves Rests.refl (fun _ _ _ => ofTenant_rests (fun _ _ => purgedLife_rests) t) s1
  clear_value s2
  have silent : Moves Rests s2 s3 := moves_of_same rfl rfl rfl rfl rfl
  have proceeded : Moves Rests s3 s4 := by
    unfold s4
    split
    · exact proceed_moves s3
    · exact .refl s3
  clear_value s4
  exact out.trans (moved.trans (silent.trans (proceeded.trans (moves_of_same rfl rfl rfl rfl rfl))))

theorem purgeAll_moves (ts : List Tenant) (s : State) : Moves Rests s (purgeAll ts s) :=
  foldl_moves _ (fun s t => purge_moves t s) ts s

theorem releaseFromBatch_moves {t : Tenant} {e : EntryIx} {s : State} (h : (s.life e).onAir? = none) :
    Moves Rests s (releaseFromBatch t e s) := by
  unfold releaseFromBatch
  extract_lets s1
  have freed : Moves Rests s s1 := (setLife_moves ⟨⟨.inl rfl, .inl rfl⟩, h.symm⟩).trans (moves_of_same rfl rfl rfl rfl rfl)
  split
  · exact freed.trans ((leaveExpected_moves t s1).trans (proceed_moves _))
  · exact freed

theorem abandon_moves (epoch : BitVec 32) (s : State) : Moves Rests s (abandon epoch s) := by
  unfold abandon
  extract_lets freed s1 s2
  have moved : Moves Rests s s1 := mapLives_moves Rests.refl (fun _ _ _ => abandonedLife_rests) s
  clear_value s1
  have quiet : Moves Rests s1 { s1 with cycle := .quiet, trigger := true } := moves_of_same rfl rfl rfl rfl rfl
  have told : Moves Rests s s2 := moved.trans (quiet.trans (moves_of_plan (issueAll_planOf _ _ _)))
  split
  · exact told.trans (moves_of_plan rfl)
  · exact told

theorem imageFailed_moves (f : Flight) (s : State) : Moves Rests s (imageFailed f s) := by
  unfold imageFailed
  split
  · exact (show Moves Rests s (giveUp s) from moves_of_same rfl rfl rfl rfl rfl).trans (abandon_moves _ _)
  · exact moves_of_same rfl rfl rfl rfl rfl

/-- What the settle end makes of an entry (R118). -/
def cooledLife : Life → Option Life
  | .cooling _ _ _ => some .free
  | .free | .pending _ _ _ | .staged _ _ | .adding _ _ _ _ _ | .live _ _ _ | .retiring _ _ _ | .dropping _ _ _ _ => none

theorem endSettle_eq (s : State) : endSettle s
    = requestSweep { mapLives (fun _ l => cooledLife l) s with changed := [], settleLeft := none, cycle := .quiet } := by
  unfold endSettle
  dsimp only
  congr! 2

theorem cooledLife_rests {l l' : Life} (h : cooledLife l = some l') : Rests l l' := by
  unfold cooledLife at h
  split at h <;> cases h
  exact ⟨⟨.inl rfl, .inl rfl⟩, rfl⟩

theorem endSettle_moves (s : State) : Moves Rests s (endSettle s) := by
  rw [endSettle_eq]
  have freed := mapLives_moves Rests.refl (fun _ _ _ => cooledLife_rests) s
  generalize mapLives (fun _ l => cooledLife l) s = u at freed ⊢
  exact freed.trans (moves_of_same rfl rfl rfl rfl rfl)

theorem countFrame_moves (p : Profile) (holdoff : Bool) (s : State) : Moves Rests s (countFrame p holdoff s) := by
  have counted := mapLives_moves Rests.refl (fun _ _ _ => countedLife_rests) s
  unfold countFrame
  generalize mapLives (fun _ l => countedLife l) s = u at counted ⊢
  exact counted.trans (moves_of_same rfl rfl rfl rfl rfl)

theorem endImageSend_moves (s : State) : Moves Rests s (endImageSend s) := by
  unfold endImageSend
  split
  · exact moves_of_same rfl rfl rfl rfl rfl
  · exact .refl s

theorem handWaiting_moves (s : State) : Moves Rests s (handWaiting s) := by
  unfold handWaiting
  split
  · exact moves_of_same rfl rfl rfl rfl rfl
  · exact .refl s

theorem endFrameSend_moves (s : State) : Moves Rests s (endFrameSend s) := by
  have sent (rest : List OutFrame) (bytes : List Byte) : Moves Rests s { s with transmit := rest, pltx := bytes } :=
    moves_of_same rfl rfl rfl rfl rfl
  unfold endFrameSend
  split
  · exact (sent _ _).trans (handWaiting_moves _)
  · exact (sent _ _).trans (handWaiting_moves _)
  · exact .refl s

/-- Every happening but a grant leaves what is on air, and drops requests and spans at most. -/
theorem Happens.moves_or_stages {s u : State} (h : Happens s u) : Moves Rests s u
    ∨ ∃ p e a r w q, s.device = .running p ∧ s.life e = .pending a r w ∧ fitChecks p s a = .ok q ∧ u = stage p e a q s := by
  cases h with
  | beside ts plan => exact .inl ((moves_of_plan plan).trans (purgeAll_moves ts _))
  | moved h => exact .inl (setLife_moves h.rests)
  | staged running pending fits => exact .inr ⟨_, _, _, _, _, _, running, pending, fits, rfl⟩
  | counted p holdoff => exact .inl (countFrame_moves p holdoff s)
  | answered _ plan => exact .inl ((leaveExpected_moves _ s).trans ((moves_of_plan plan).trans (proceed_moves _)))
  | refused ts _ _ plan =>
    exact .inl ((foldl_moves _ (fun s t => withdrawPart_moves t s) _ s).trans
      ((moves_of_plan plan).trans ((proceed_moves _).trans (purgeAll_moves ts _))))
  | released _ adding => exact .inl (releaseFromBatch_moves (adding ▸ rfl))
  | settled => exact .inl (endSettle_moves s)
  | failed => exact .inl (imageFailed_moves _ s)
  | @cancelled f =>
    have handed : Moves Rests s (handCancel f s) := moves_of_same rfl rfl rfl rfl rfl
    exact .inl (handed.trans (imageFailed_moves _ _))
  | imageSent => exact .inl (endImageSend_moves s)
  | frameSent => exact .inl (endFrameSend_moves s)
  | acknowledged => exact .inl (moves_of_same rfl rfl rfl rfl rfl)

/-! ### The freeze or commit test -/

theorem freeze_moves (p : Profile) (s : State) : Moves Rests s (freeze p s) := by
  unfold freeze
  split
  · extract_lets s1 called s2 s3
    have flagged : Moves Rests s { s with trigger := false, batch := s.batch + 1 } := moves_of_same rfl rfl rfl rfl rfl
    have frozen : Moves Rests s s1 := flagged.trans (mapLives_moves Rests.refl (fun _ _ _ => frozenLife_rests) _)
    clear_value s1
    have awaited : Moves Rests s1 s2 := moves_of_same rfl rfl rfl rfl rfl
    have told : Moves Rests s2 s3 :=
      moves_of_plan (foldl_planOf (fun v t => issue t (.prepare v.batch (v.prepareItems t)) v) (fun _ _ => rfl) called s2)
    clear_value s3
    refine frozen.trans (awaited.trans (told.trans ?_))
    split <;> exact moves_of_same rfl rfl rfl rfl rfl
  · exact moves_of_same rfl rfl rfl rfl rfl

theorem commit_moves (p : Profile) (f : Flight) (s : State) : Moves Fades s (commit p f s) := by
  have applied : Moves Fades (handApply f s) (mapLives (fun _ l => committedLife p.settleFrames l) (handApply f s)) :=
    mapLives_moves Fades.refl (fun _ _ _ => committedLife_fades) _
  have handed : Moves Rests s (handApply f s) := moves_of_same rfl rfl rfl rfl rfl
  unfold commit
  extract_lets changed dropped s1 s2 s3
  change Moves Fades (handApply f s) s1 at applied
  clear_value s1
  have settling : Moves Rests s1 { s1 with changed := changed } := moves_of_same rfl rfl rfl rfl rfl
  have told : Moves Rests s1 s2 := settling.trans (moves_of_plan (issueAll_planOf _ _ _))
  have swept : Moves Rests s2 s3 := by
    unfold s3
    split
    · exact moves_of_plan rfl
    · exact .refl s2
  clear_value s3
  have ended : Moves Rests s3 (if 0 < p.settleFrames then { s3 with settleLeft := some p.settleFrames, cycle := .settling }
      else { s3 with cycle := .quiet }) := by
    split <;> exact moves_of_same rfl rfl rfl rfl rfl
  have after := told.trans (swept.trans ended)
  exact ⟨after.device.trans (applied.device.trans handed.device),
    fun e => (after.generation e).trans ((applied.generation e).trans (handed.generation e)),
    fun e => (handed.lives e).toFades.trans ((applied.lives e).trans (after.lives e).toFades),
    after.sums ∘ applied.sums ∘ handed.sums⟩

theorem cycleTest_moves (p : Profile) (cycle : CycleState) (holdoff : Bool) (s : State) :
    Moves Fades s (cycleTest p cycle holdoff s) := by
  have rests {u : State} (h : Moves Rests s u) : Moves Fades s u := h.mono fun _ _ => Rests.toFades
  unfold cycleTest
  split
  · exact rests (.refl s)
  split
  · split
    · exact rests (freeze_moves p s)
    · exact rests (.refl s)
  · split
    · exact commit_moves p _ s
    · exact rests (.refl s)
  · split
    · exact rests (moves_of_same rfl rfl rfl rfl rfl)
    · exact rests (.refl s)
  · exact rests (.refl s)
  · exact rests (.refl s)

end Sys2Proof.Proofs
end

section
/-! PROOFS. What every step keeps of the Span Table: the running sums, the plan's spans apart, every request and span in its
ranges; and when what is on air and the generations move. -/

namespace Sys2Proof.Proofs

open Machine Safety Laws

/-! ### The rows beside the happenings -/

theorem beginReload_life (s : State) (e : EntryIx) : (beginReload s).life e = .free := by
  rw [State.life, beginReload_entry]

theorem loadSuccess_device (kind : LoadKind) (p : Profile) (s : State) : (loadSuccess kind p s).device = .running p := by
  unfold loadSuccess
  rw [(handWaiting_moves _).device]

/-- A load leaves the table and its sums as they are. -/
theorem loadSuccess_table (kind : LoadKind) (p : Profile) (s : State) : ∃ v, v.table = s.table ∧ v.load = s.load ∧ v.held = s.held
    ∧ v.entryCount = s.entryCount ∧ v.epoch = s.epoch ∧ loadSuccess kind p s = v := by
  refine ⟨_, ?_, ?_, ?_, ?_, ?_, rfl⟩ <;> (unfold loadSuccess handWaiting; split <;> rfl)

theorem loadSuccess_entry (kind : LoadKind) (p : Profile) (s : State) (e : EntryIx) :
    (loadSuccess kind p s).entry e = s.entry e := by
  obtain ⟨v, table, _, _, _, _, heq⟩ := loadSuccess_table kind p s
  rw [heq, State.entry, State.entry, table]

theorem loadSuccess_life (kind : LoadKind) (p : Profile) (s : State) (e : EntryIx) : (loadSuccess kind p s).life e = s.life e :=
  congrArg Entry.life (loadSuccess_entry kind p s e)

theorem stage_life (p : Profile) (e x : EntryIx) (a : Asked) (q : Placed) (s : State) :
    (stage p e a q s).life x = if x = e then .staged a q else s.life x := setLife_life_eq s e x (.staged a q)

theorem stage_sumsMatch {p : Profile} {e : EntryIx} {a : Asked} {q : Placed} {s : State} (h : SumsMatch s) :
    SumsMatch (stage p e a q s) :=
  sumsMatch_of_same (s := setLife e (.staged a q) s) rfl rfl rfl rfl (setLife_sumsMatch h)

theorem profile?_of_running {s : State} {p : Profile} (h : s.device = .running p) : s.profile? = some p := by
  simp [State.profile?, h]

/-! ### The running sums -/

theorem sum_lives (f : Life → Nat) (s : State) :
    (s.table.toList.map fun e => f e.life) = (s.table.toList.map Entry.life).map f := (List.map_map ..).symm

theorem bumpGeneration_sumsMatch (e : EntryIx) {s : State} (h : SumsMatch s) : SumsMatch (bumpGeneration e s) := by
  have same (f : Life → Nat) : ((bumpGeneration e s).table.toList.map fun e => f e.life) = s.table.toList.map fun e => f e.life := by
    rw [sum_lives, sum_lives, bumpGeneration_lives]
  exact ⟨fun d => (h.load d).trans (congrArg List.sum (same (·.loadIn d))).symm,
    fun t d => (h.held t d).trans (congrArg List.sum (same (·.heldIn t d))).symm,
    fun t => (h.count t).trans (congrArg List.sum (same (·.countIn t))).symm⟩

theorem beginReload_sumsMatch (s : State) : SumsMatch (beginReload s) := by
  have zero (f : Life → Nat) (free : f .free = 0) : ((beginReload s).table.toList.map fun e => f e.life).sum = 0 := by
    refine List.sum_eq_zero fun n hn => ?_
    obtain ⟨e, he, rfl⟩ := List.mem_map.mp hn
    obtain ⟨i, hi, rfl⟩ := Vector.getElem_of_mem (Vector.mem_toList_iff.mp he)
    rw [show (beginReload s).table[i].life = .free from beginReload_life s ⟨i, hi⟩, free]
  have count (t : Tenant) : (Vector.replicate 4 (0 : Nat))[t] = 0 := by simp
  exact ⟨fun d => (zero_load d).trans (zero (·.loadIn d) rfl).symm, fun t d => (zero_held t d).trans (zero (·.heldIn t d) rfl).symm,
    fun t => (count t).trans (zero (·.countIn t) rfl).symm⟩

theorem Happens.sumsMatch {s u : State} (h : Happens s u) (hs : SumsMatch s) : SumsMatch u := by
  obtain m | ⟨p, e, a, r, w, q, _, _, _, rfl⟩ := h.moves_or_stages
  · exact m.sums hs
  · exact stage_sumsMatch hs

theorem sumsMatch_kept : KeptByAll SumsMatch where
  happens := Happens.sumsMatch
  reset := sumsMatch_reset
  stopped _ _ := sumsMatch_of_same rfl rfl rfl rfl
  reloaded {s} _ := beginReload_sumsMatch s
  started {s p} kind _ _ h := by
    obtain ⟨v, table, load, held, count, _, heq⟩ := loadSuccess_table kind p s
    exact heq ▸ sumsMatch_of_same table load held count h
  placed {s u p t f} _ _ ends h := by
    obtain _ | _ | _ | @⟨e, _, a, _, _, _⟩ := ends
    · exact h
    · exact bumpGeneration_sumsMatch _ h
    · exact stage_sumsMatch (bumpGeneration_sumsMatch _ h)
    · exact setLife_sumsMatch (sumsMatch_of_same (s := bumpGeneration e s) (u := joinList p.rankMode e a (bumpGeneration e s))
        rfl rfl rfl rfl (bumpGeneration_sumsMatch e h))
  tested {s u p} holdoff _ _ _ h := (cycleTest_moves p s.cycle holdoff u).sums h

/-- Settles O49: every change of a life moves each sum with it, by the happenings a command is made of. -/
theorem stepKeepsSums : Obligations.StepKeepsSums := sumsMatch_kept.step

/-! ### The plan -/

theorem planClear_of_occupied {s u : State} (c : PlanClear s) (device : u.device = s.device)
    (h : ∀ e, (u.life e).occupies? = none ∨ (u.life e).occupies? = (s.life e).occupies?) : PlanClear u where
  apart p hp e f a q b r ne he hf := by
    have stood {e : EntryIx} {x : Asked × Placed} (hx : (u.life e).occupies? = some x) : (s.life e).occupies? = some x := by
      rcases h e with none | same
      · cases none.symm.trans hx
      · exact same ▸ hx
    exact c.apart p (device ▸ hp) e f a q b r ne (stood he) (stood hf)
  empty hp e := by
    rcases h e with none | same
    · exact none
    · exact same.trans (c.empty (profile?_eq_of_device device ▸ hp) e)

theorem planClear_of_free {s : State} (h : ∀ e, (s.life e).occupies? = none) : PlanClear s where
  apart _ _ e _ _ _ _ _ _ he := by
    rw [h e] at he
    cases he
  empty _ := h

/-- A span that passes the fit checks keeps clear of every other in the plan. -/
theorem stage_planClear {s : State} (c : PlanClear s) {p : Profile} {e : EntryIx} {a : Asked} {q : Placed}
    (hd : s.device = .running p) (he : (s.life e).occupies? = none) (fits : fitChecks p s a = .ok q) : PlanClear (stage p e a q s) where
  apart p' hp f g b r b' r' ne hf hg := by
    cases hd.symm.trans hp
    have clear {x : EntryIx} {y : Asked × Placed} (hx : (s.life x).occupies? = some y) : clearOf p a q.first y = true :=
      (fitChecks_placed fits).1.clear y (mem_occupied hx)
    rw [stage_life] at hf hg
    split at hf
    · next same =>
      subst same
      rw [if_neg ne.symm] at hg
      cases hf
      exact clear hg
    · split at hg
      · cases hg
        rw [clearOf_comm]
        exact clear hf
      · exact c.apart p hd f g b r b' r' ne hf hg
  empty hp := by
    have running : (stage p e a q s).device = .running p := hd
    cases (profile?_of_running running).symm.trans hp

theorem bumpGeneration_planClear (e : EntryIx) {s : State} (c : PlanClear s) : PlanClear (bumpGeneration e s) :=
  planClear_of_occupied c rfl fun x => .inr (by rw [bumpGeneration_life])

theorem planClear_kept : KeptByAll PlanClear where
  happens {s u} h c := by
    obtain m | ⟨p, e, a, r, w, q, running, pending, fits, rfl⟩ := h.moves_or_stages
    · exact planClear_of_occupied c m.device fun e => (m.lives e).occupied
    · exact stage_planClear c running (by rw [pending]; rfl) fits
  reset := planClear_reset
  stopped idle _ c := planClear_of_free (c.empty idle)
  reloaded {s} _ := planClear_of_free fun e => by rw [beginReload_life]; rfl
  started kind idle _ c := planClear_of_free fun e => by rw [loadSuccess_life]; exact c.empty idle e
  placed {s u p t f} running _ ends c := by
    obtain _ | _ | ⟨_, free, fits⟩ | @⟨e, _, _, _, _, free⟩ := ends
    · exact c
    · exact bumpGeneration_planClear _ c
    · exact stage_planClear (bumpGeneration_planClear _ c) running (by rw [bumpGeneration_life, free]; rfl)
        ((bumpGeneration_fitChecks ..).trans fits)
    · refine planClear_of_occupied c rfl fun x => ?_
      rw [setLife_life_eq]
      split
      · exact .inl rfl
      · exact .inr (congrArg _ (bumpGeneration_life s e x))
  tested {s u p} holdoff _ _ _ c :=
    have m := cycleTest_moves p s.cycle holdoff u
    planClear_of_occupied c m.device fun e => (m.lives e).occupied

/-! ### Requests and spans in their ranges -/

/-- The request is in its ranges, and its window in its direction. -/
structure AskedOk (s : State) (a : Asked) : Prop where
  inRange     : AskedInRange a
  inDirection : ∀ p, s.device = .running p → p.inDirection a.direction a.windowLo a.windowHi = true

/-- The span lies in its window on permitted ground, with the density and load that R69 and R70 give. -/
structure SpanOk (s : State) (a : Asked) (q : Placed) : Prop where
  window  : a.windowLo ≤ q.first ∧ q.first + a.width ≤ a.windowHi + 1
  density : -8 ≤ q.density ∧ q.density ≤ a.density
  cap     : ∀ c, a.cap = some c → q.density ≤ c
  clamped : q.clamped = true ↔ q.density < a.density
  load    : q.load = a.width * weight q.density
  ground  : ∀ p, s.device = .running p → q.density ≤ densityLimit p a.direction q.first
    ∧ ∀ g, q.first ≤ g → g < q.first + a.width → p.permitted a.tenant g = true

/-- `SpansOk` entry by entry. -/
theorem spansOk_iff (s : State) : SpansOk s ↔ (∀ p, s.device = .running p → LegalProfile p)
    ∧ (∀ e a, (s.life e).asked? = some a → AskedOk s a)
    ∧ (∀ e a q, (s.life e).occupies? = some (a, q) → SpanOk s a q)
    ∧ (s.profile? = none → ∀ e, s.life e = .free) := by
  constructor
  · intro h
    refine ⟨h.legal, fun e a ha => ?_, fun e a q hq => ?_, h.empty⟩
    · obtain ⟨least, most, low, high, priority, cap, window⟩ := h.asked e a ha
      exact ⟨⟨⟨least, most⟩, ⟨low, high⟩, priority, cap, window⟩, fun p hp => h.direction p hp e a ha⟩
    · obtain ⟨lo, hi, least, most, cap, clamped, load⟩ := h.placed e a q hq
      exact ⟨⟨lo, hi⟩, ⟨least, most⟩, cap, clamped, load, fun p hp => h.ground p hp e a q hq⟩
  · rintro ⟨legal, asked, placed, empty⟩
    refine ⟨legal, fun e a ha => ?_, fun p hp e a ha => (asked e a ha).inDirection p hp, fun e a q hq => ?_,
      fun p hp e a q hq => (placed e a q hq).ground p hp, empty⟩
    · obtain ⟨⟨⟨least, most⟩, ⟨low, high⟩, priority, cap, window⟩, _⟩ := asked e a ha
      exact ⟨least, most, low, high, priority, cap, window⟩
    · obtain ⟨⟨lo, hi⟩, ⟨least, most⟩, cap, clamped, load, _⟩ := placed e a q hq
      exact ⟨lo, hi, least, most, cap, clamped, load⟩

theorem AskedOk.congr {s u : State} {a : Asked} (device : u.device = s.device) (h : AskedOk s a) : AskedOk u a :=
  ⟨h.inRange, fun p hp => h.inDirection p (device ▸ hp)⟩

theorem SpanOk.congr {s u : State} {a : Asked} {q : Placed} (device : u.device = s.device) (h : SpanOk s a q) : SpanOk u a q :=
  ⟨h.window, h.density, h.cap, h.clamped, h.load, fun p hp => h.ground p (device ▸ hp)⟩

theorem spansOk_of_fades {s u : State} (ok : SpansOk s) (device : u.device = s.device) (h : ∀ e, Fades (s.life e) (u.life e)) :
    SpansOk u := by
  obtain ⟨legal, asked, placed, empty⟩ := (spansOk_iff s).mp ok
  exact (spansOk_iff u).mpr ⟨device ▸ legal, fun e a ha => (asked e a ((h e).asked_eq ha)).congr device,
    fun e a q hq => (placed e a q ((h e).occupies_eq hq)).congr device,
    fun hp e => (h e).free (empty (profile?_eq_of_device device ▸ hp) e)⟩

theorem spansOk_of_free {s : State} (legal : ∀ p, s.device = .running p → LegalProfile p) (h : ∀ e, s.life e = .free) :
    SpansOk s := by
  refine (spansOk_iff s).mpr ⟨legal, fun e a ha => ?_, fun e a q hq => ?_, fun _ => h⟩
  · rw [h e] at ha
    cases ha
  · rw [h e] at hq
    cases hq

/-- While RUNNING a life whose request and span are in their ranges may take an entry's place. -/
theorem setLife_spansOk {s : State} (ok : SpansOk s) {p : Profile} (hd : s.device = .running p) {e : EntryIx} {l : Life}
    (ha : ∀ a, l.asked? = some a → AskedOk s a) (hq : ∀ a q, l.occupies? = some (a, q) → SpanOk s a q) :
    SpansOk (setLife e l s) := by
  obtain ⟨legal, asked, placed, _⟩ := (spansOk_iff s).mp ok
  have running : (setLife e l s).device = .running p := hd
  refine (spansOk_iff _).mpr ⟨legal, fun x a hx => ?_, fun x a q hx => ?_, fun hp => ?_⟩
  · rw [setLife_life_eq] at hx
    split at hx
    · exact (ha a hx).congr (s := s) rfl
    · exact (asked x a hx).congr (s := s) rfl
  · rw [setLife_life_eq] at hx
    split at hx
    · exact (hq a q hx).congr (s := s) rfl
    · exact (placed x a q hx).congr (s := s) rfl
  · cases (profile?_of_running running).symm.trans hp

/-- What the fit checks place is a span in its ranges (R66, R69, R70). -/
theorem spanOk_of_fits {s : State} {p : Profile} {a : Asked} {q : Placed} (hd : s.device = .running p) (legal : LegalProfile p)
    (ha : AskedInRange a) (fits : fitChecks p s a = .ok q) : SpanOk s a q := by
  obtain ⟨⟨window, _, ground⟩, heq⟩ := fitChecks_placed fits
  have granted := grantedDensity_granted p a q.first
  have density : q.density = grantedDensity p a q.first := congrArg Placed.density heq
  have least := granted.least ha.density.1 (fun c hc => (ha.cap c hc).1) (densityLimit_least legal _ _)
  have clamped : q.clamped = decide (grantedDensity p a q.first < a.density) := congrArg Placed.clamped heq
  have load : q.load = a.width * weight (grantedDensity p a q.first) := congrArg Placed.load heq
  rw [← density] at granted least clamped load
  refine ⟨window, ⟨least, granted.request⟩, granted.cap, by rw [clamped, decide_eq_true_iff], load, fun p' hp => ?_⟩
  cases hd.symm.trans hp
  exact ⟨granted.limit, ground⟩

theorem stage_spansOk {s : State} (ok : SpansOk s) {p : Profile} {e : EntryIx} {a : Asked} {q : Placed}
    (hd : s.device = .running p) (ha : AskedOk s a) (fits : fitChecks p s a = .ok q) : SpansOk (stage p e a q s) := by
  have staged : SpansOk (setLife e (.staged a q) s) := by
    refine setLife_spansOk ok hd (fun b hb => ?_) (fun b r hb => ?_)
    · cases hb
      exact ha
    · cases hb
      exact spanOk_of_fits hd (ok.legal p hd) ha.inRange fits
  exact spansOk_of_fades staged rfl fun x => .refl _

theorem bumpGeneration_spansOk (e : EntryIx) {s : State} (ok : SpansOk s) : SpansOk (bumpGeneration e s) :=
  spansOk_of_fades ok rfl fun x => by rw [bumpGeneration_life]; exact .refl _

theorem spansOk_kept : KeptByAll SpansOk where
  happens {s u} h ok := by
    obtain m | ⟨p, e, a, r, w, q, running, pending, fits, rfl⟩ := h.moves_or_stages
    · exact spansOk_of_fades ok m.device fun e => (m.lives e).toFades
    · obtain ⟨_, asked, _, _⟩ := (spansOk_iff s).mp ok
      exact stage_spansOk ok running (asked e a (by rw [pending]; rfl)) fits
  reset := spansOk_reset
  stopped idle stays ok := spansOk_of_free (fun p hp => absurd hp (stays p)) (ok.empty idle)
  reloaded {s} _ := spansOk_of_free (fun p hp => nomatch hp) (beginReload_life s)
  started {s p} kind idle legal ok := spansOk_of_free
    (fun p' hp => by cases (loadSuccess_device kind p s).symm.trans hp; exact legal)
    (fun e => (loadSuccess_life kind p s e).trans (ok.empty idle e))
  placed {s u p t f} running _ ends ok := by
    have recorded {q : PlaceAsk} {a : Asked} (e : EntryIx) (h : admission p t f = .ok (q, a)) : AskedOk (bumpGeneration e s) a := by
      obtain ⟨inRange, inDirection⟩ := admission_inRange (ok.legal p running) h
      refine ⟨inRange, fun p' hp => ?_⟩
      cases running.symm.trans hp
      exact inDirection
    obtain _ | _ | ⟨admitted, free, fits⟩ | @⟨e, _, a, _, admitted, free⟩ := ends
    · exact ok
    · exact bumpGeneration_spansOk _ ok
    · exact stage_spansOk (bumpGeneration_spansOk _ ok) running (recorded _ admitted) ((bumpGeneration_fitChecks ..).trans fits)
    · have listed := spansOk_of_fades (u := joinList p.rankMode e a (bumpGeneration e s))
        (bumpGeneration_spansOk e ok) rfl fun _ => .refl _
      refine setLife_spansOk listed running (fun a ha => ?_) nofun
      cases ha
      exact (recorded e admitted).congr (s := bumpGeneration e s) rfl
  tested {s u p} holdoff _ _ _ ok :=
    have m := cycleTest_moves p s.cycle holdoff u
    spansOk_of_fades ok m.device m.lives

/-- Settles O51: a span in the plan stands as the fit checks placed it until it leaves. -/
theorem stepKeepsPlanClear : Obligations.StepKeepsPlanClear := ⟨planClear_kept.step, spansOk_kept.step⟩

/-! ### What is on air -/

/-- What is on air and the epoch number stand (R34). -/
structure AirStands (s u : State) : Prop where
  onAir : ∀ e, (u.life e).onAir? = (s.life e).onAir?
  epoch : u.epoch = s.epoch

theorem AirStands.refl (s : State) : AirStands s s := ⟨fun _ => rfl, rfl⟩

theorem AirStands.trans {s u v : State} (h : AirStands s u) (g : AirStands u v) : AirStands s v :=
  ⟨fun e => (g.onAir e).trans (h.onAir e), g.epoch.trans h.epoch⟩

theorem bumpGeneration_air (e : EntryIx) (s : State) : AirStands s (bumpGeneration e s) :=
  ⟨fun x => by rw [bumpGeneration_life], rfl⟩

theorem setLife_air {e : EntryIx} {l : Life} {s : State} (hl : l.onAir? = (s.life e).onAir?) : AirStands s (setLife e l s) := by
  refine ⟨fun x => ?_, rfl⟩
  rw [setLife_life_eq]
  split
  · next same => exact same ▸ hl
  · rfl

theorem foldl_withdrawPart_eases (ts : List Tenant) (s : State) : Eases s (ts.foldl (fun s t => withdrawPart t s) s) :=
  foldl_eases _ (fun s t => withdrawPart_eases t s) ts s

/-- No happening moves the epoch number. -/
theorem Happens.epoch {s u : State} (h : Happens s u) : u.epoch = s.epoch := by
  cases h with
  | beside ts plan => exact (purgeAll_eases ts _).epoch.trans (planOf_epoch plan)
  | moved | staged | acknowledged => rfl
  | counted p holdoff => exact (countFrame_eases p holdoff s).epoch
  | answered _ plan => exact (proceed_eases _).epoch.trans ((planOf_epoch plan).trans (leaveExpected_eases _ s).epoch)
  | refused ts _ _ plan =>
    exact ((proceed_eases _).trans (purgeAll_eases ts _)).epoch.trans
      ((planOf_epoch plan).trans (foldl_withdrawPart_eases _ s).epoch)
  | released => exact (releaseFromBatch_eases _ _ s).epoch
  | settled => exact (endSettle_eases s).epoch
  | failed => exact (imageFailed_eases _ s).epoch
  | cancelled => exact (imageFailed_eases _ (handCancel _ s)).epoch
  | imageSent =>
    unfold endImageSend
    split <;> rfl
  | frameSent =>
    unfold endFrameSend
    split
    · exact (handWaiting_eases _).epoch
    · exact (handWaiting_eases _).epoch
    · rfl

theorem Happens.air {s u : State} (h : Happens s u) : AirStands s u := by
  refine ⟨?_, h.epoch⟩
  obtain m | ⟨p, e, a, r, w, q, _, pending, _, rfl⟩ := h.moves_or_stages
  · exact fun e => (m.lives e).onAir
  · exact (setLife_air (l := .staged a q) (by rw [pending]; rfl)).onAir

theorem Runs.air {s u : State} (h : Runs s u) : AirStands s u := by
  induction h with
  | refl => exact .refl s
  | tail _ one ih => exact ih.trans one.air

theorem PlaceEnds.air {p : Profile} {t : Tenant} {f : PlaceFields} {s u : State} (h : PlaceEnds p t f s u) : AirStands s u := by
  have given {e : EntryIx} (free : s.life e = .free) (l : Life) (hl : l.onAir? = none) {v : State}
      (hv : AirStands s v) : AirStands s (setLife e l v) := by
    refine hv.trans (setLife_air ?_)
    rw [hv.onAir, free, hl]
    rfl
  obtain _ | _ | @⟨e, _, a, b, _, free, _⟩ | @⟨e, q, a, r, _, free⟩ := h
  · exact .refl s
  · exact bumpGeneration_air _ s
  · exact (given free (.staged a b) rfl (bumpGeneration_air e s)).trans ⟨fun _ => rfl, rfl⟩
  · exact given free (.pending a r q.waitLimit) rfl ((bumpGeneration_air e s).trans ⟨fun _ => rfl, rfl⟩)

theorem Takes.air {c : Instr} {s u : State} (h : Takes c s u) (hc : mayChangeAir c = false) : AirStands s u := by
  cases h with
  | runs h => exact Runs.air h
  | reset | reloaded => cases hc
  | stopped before => exact (Runs.air before).trans ⟨fun _ => rfl, rfl⟩
  | @started _ _ v p kind before =>
    obtain ⟨w, _, _, _, _, epoch, heq⟩ := loadSuccess_table kind p v
    exact (Runs.air before).trans ⟨fun e => by rw [loadSuccess_life], by rw [heq, epoch]⟩
  | placed before _ _ ends after => exact (Runs.air before).trans (ends.air.trans (Runs.air after))
  | framed _ air => exact absurd (hc.symm.trans air) nofun

/-- Settles O58: none of the happenings moves a span onto or off the air, or the epoch number. -/
theorem airChangesAtFrameEvents : Obligations.AirChangesAtFrameEvents := fun _ _ _ hc h =>
  have stands := (takes_of_exec h).air hc
  ⟨stands.onAir, stands.epoch⟩

/-! ### Generations -/

/-- No generation moves, and no FREE entry is given to anybody. -/
structure NoneGiven (s u : State) : Prop where
  generation : ∀ e, (u.entry e).generation = (s.entry e).generation
  free       : ∀ e, s.life e = .free → u.life e = .free

theorem NoneGiven.refl (s : State) : NoneGiven s s := ⟨fun _ => rfl, fun _ h => h⟩

theorem NoneGiven.trans {s u v : State} (h : NoneGiven s u) (g : NoneGiven u v) : NoneGiven s v :=
  ⟨fun e => (g.generation e).trans (h.generation e), fun e => g.free e ∘ h.free e⟩

theorem Moves.noneGiven {s u : State} (m : Moves Fades s u) : NoneGiven s u := ⟨m.generation, fun e => (m.lives e).free⟩

theorem Happens.noneGiven {s u : State} (h : Happens s u) : NoneGiven s u := by
  obtain m | ⟨p, e, a, r, w, q, _, pending, _, rfl⟩ := h.moves_or_stages
  · exact (m.mono fun _ _ => Rests.toFades).noneGiven
  · refine ⟨setLife_generation s e (l := .staged a q), fun x hx => ?_⟩
    rw [stage_life, if_neg, hx]
    rintro rfl
    cases pending.symm.trans hx

theorem Runs.noneGiven {s u : State} (h : Runs s u) : NoneGiven s u := by
  induction h with
  | refl => exact .refl s
  | tail _ one ih => exact ih.trans one.noneGiven

theorem Takes.noneGiven {c : Instr} {s u : State} (h : Takes c s u) (reset : c ≠ .deviceReset) (place : c ≠ .place) :
    NoneGiven s u := by
  cases h with
  | runs h => exact Runs.noneGiven h
  | reset => exact absurd rfl reset
  | stopped before => exact (Runs.noneGiven before).trans ⟨fun _ => rfl, fun _ h => h⟩
  | @reloaded _ v before =>
    exact (Runs.noneGiven before).trans ⟨fun e => by rw [beginReload_entry], fun e _ => beginReload_life v e⟩
  | @started _ _ v p kind before =>
    exact (Runs.noneGiven before).trans
      ⟨fun e => by rw [loadSuccess_entry], fun e h => (loadSuccess_life kind p v e).trans h⟩
  | placed => exact absurd rfl place
  | framed holdoff _ before _ counts after =>
    exact (Runs.noneGiven before).trans ((Runs.noneGiven counts).trans
      ((cycleTest_moves _ _ holdoff _).noneGiven.trans (Runs.noneGiven after)))

/-- One generation moves by 1, that of an entry that was FREE, or none moves and none is given. -/
def OneGiven (s u : State) : Prop := ∀ e,
  (u.entry e).generation = (s.entry e).generation ∧ (s.life e = .free → u.life e = .free)
  ∨ s.life e = .free ∧ (u.entry e).generation = (s.entry e).generation + 1

theorem NoneGiven.oneGiven {s u : State} (h : NoneGiven s u) : OneGiven s u := fun e => .inl ⟨h.generation e, h.free e⟩

theorem OneGiven.trans {s u v : State} (h : OneGiven s u) (g : NoneGiven u v) : OneGiven s v := fun e =>
  (h e).imp (fun ⟨generation, free⟩ => ⟨(g.generation e).trans generation, g.free e ∘ free⟩)
    (fun ⟨free, generation⟩ => ⟨free, (g.generation e).trans generation⟩)

/-- The entry given has its generation moved on, whatever its life becomes. -/
theorem oneGiven_of_bumped {s u : State} {e : EntryIx} (free : s.life e = .free)
    (generation : ∀ x, (u.entry x).generation = ((bumpGeneration e s).entry x).generation)
    (lives : ∀ x, x ≠ e → u.life x = s.life x) : OneGiven s u := fun x => by
  by_cases same : x = e
  · subst same
    exact .inr ⟨free, by rw [generation, bumpGeneration_entry]⟩
  · exact .inl ⟨by rw [generation, bumpGeneration_entry_ne s e x same], fun h => (lives x same).trans h⟩

theorem PlaceEnds.oneGiven {p : Profile} {t : Tenant} {f : PlaceFields} {s u : State} (h : PlaceEnds p t f s u) :
    OneGiven s u := by
  obtain _ | ⟨free⟩ | @⟨e, _, a, b, _, free, _⟩ | @⟨e, q, a, r, _, free⟩ := h
  · exact (NoneGiven.refl s).oneGiven
  · exact oneGiven_of_bumped free (fun _ => rfl) (fun x _ => bumpGeneration_life s _ x)
  · refine oneGiven_of_bumped free (setLife_generation _ e (l := .staged a b)) fun x hx => ?_
    rw [stage_life, if_neg hx, bumpGeneration_life]
  · refine oneGiven_of_bumped free (setLife_generation _ e (l := .pending a r q.waitLimit)) fun x hx => ?_
    rw [setLife_life_ne _ _ _ _ hx]
    exact bumpGeneration_life s e x

/-- Settles O59: only a PLACE's evaluation moves a generation, once, of the FREE entry it is given. -/
theorem generationMovesFromFree : Obligations.GenerationMovesFromFree := by
  intro c s u reset hs h
  change OneGiven s u
  by_cases place : c = .place
  · subst place
    rw [exec, execPlace, settleDue_settled s hs] at h
    cases h
    obtain run | ⟨p, t, f, _, _, run⟩ := completeFor_cases (fun r => match r with | .place f => some f | _ => none) evalPlace s
    · exact (Runs.noneGiven run).oneGiven
    · exact (evalPlace_ends p t f s).oneGiven.trans (Runs.noneGiven run)
  · exact ((takes_of_exec h).noneGiven reset place).oneGiven

end Sys2Proof.Proofs
end

section
/-! PROOFS. The purge of a tenant, taken apart: its entries leave the list, they move, and the tenant leaves the expected and
called sets, before the cycle may proceed. -/

namespace Sys2Proof.Proofs

open Machine Safety Laws

/-- The tenant's waiting entries have left the Pending List. -/
def outOfList (t : Tenant) (s : State) : State :=
  (s.waitList.filter fun e => decide ((s.life e).tenant? = some t)).foldl (fun s e => leaveList e s) s

/-- What a purge of tenant `t` makes of an entry (R41). -/
def purgeMove (t : Tenant) (cycle : CycleState) (_ : EntryIx) (l : Life) : Option Life :=
  if l.tenant? = some t then purgedLife cycle l else none

/-- The tenant's entries have left the list and moved. -/
def purgedEntries (t : Tenant) (s : State) : State := mapLives (purgeMove t s.cycle) (outOfList t s)

/-- A purge up to the point where the cycle proceeds. -/
def purged (t : Tenant) (s : State) : State :=
  { purgedEntries t s with expected := s.expected.filter (· ≠ t), called := s.called.filter (· ≠ t) }

theorem outOfList_frame (t : Tenant) (s : State) :
    ∃ list sweep, outOfList t s = { s with waitList := list, sweep := sweep } := foldl_leaveList_frame _ s

theorem purgedEntries_frame (t : Tenant) (s : State) : ∃ table load held count list sweep, purgedEntries t s
    = { s with table := table, load := load, held := held, entryCount := count, waitList := list, sweep := sweep } := by
  obtain ⟨_, _, _, _, moved⟩ := mapLives_frame (purgeMove t s.cycle) (outOfList t s)
  obtain ⟨_, _, out⟩ := outOfList_frame t s
  unfold purgedEntries
  rw [moved]
  generalize outOfList t s = v at out
  subst out
  exact ⟨_, _, _, _, _, _, rfl⟩

theorem purged_frame (t : Tenant) (s : State) : ∃ table load held count list sweep, purged t s
    = { s with table := table, load := load, held := held, entryCount := count, waitList := list, sweep := sweep,
               expected := s.expected.filter (· ≠ t), called := s.called.filter (· ≠ t) } := by
  obtain ⟨_, _, _, _, _, _, h⟩ := purgedEntries_frame t s
  unfold purged
  generalize purgedEntries t s = v at h
  subst h
  exact ⟨_, _, _, _, _, _, rfl⟩

/-- A purge is its moves, the cycle proceeding when an answer of the tenant's was awaited, the trigger and the sweep request. -/
theorem purge_eq (t : Tenant) (s : State) : purge t s
    = requestSweep { (if t ∈ s.expected then proceed (purged t s) else purged t s) with trigger := true } := by
  obtain ⟨_, _, _, _, _, _, h⟩ := purgedEntries_frame t s
  have expected : (purgedEntries t s).expected = s.expected := (congrArg State.expected h :)
  have called : (purgedEntries t s).called = s.called := (congrArg State.called h :)
  have out : leaveExpected t { purgedEntries t s with called := (purgedEntries t s).called.filter (· ≠ t) } = purged t s := by
    unfold leaveExpected purged
    dsimp only
    rw [expected, called]
  rw [← out, ← expected]
  rfl

section
variable (t : Tenant) (s : State)

theorem outOfList_entry (e : EntryIx) : (outOfList t s).entry e = s.entry e := by
  obtain ⟨_, _, h⟩ := outOfList_frame t s
  exact (congrArg (fun v : State => v.entry e) h :)

theorem purged_table : (purged t s).table = (purgedEntries t s).table := by
  unfold purged
  generalize purgedEntries t s = v
  rfl

theorem purged_entry (e : EntryIx) :
    (purged t s).entry e = { s.entry e with life := (purgeMove t s.cycle e (s.life e)).getD (s.life e) } := by
  rw [State.entry, purged_table, ← State.entry, purgedEntries, mapLives_entry, State.life, outOfList_entry, State.life]

theorem purged_life (e : EntryIx) : (purged t s).life e = (purgeMove t s.cycle e (s.life e)).getD (s.life e) :=
  congrArg Entry.life (purged_entry t s e)

theorem purged_sumsMatch (h : SumsMatch s) : SumsMatch (purged t s) := by
  have out : SumsMatch (outOfList t s) := by
    obtain ⟨list, sweep, eq⟩ := outOfList_frame t s
    rw [eq]
    exact sumsMatch_of_same (s := s) (u := { s with waitList := list, sweep := sweep }) rfl rfl rfl rfl h
  have moved : SumsMatch (purgedEntries t s) := mapLives_sumsMatch _ out
  unfold purged
  generalize purgedEntries t s = v at moved
  exact sumsMatch_of_same (s := v) (u := { v with expected := _, called := _ }) rfl rfl rfl rfl moved

theorem proceed_entry (e : EntryIx) : (proceed s).entry e = s.entry e := by
  obtain ⟨_, _, _, _, _, _, _, _, _, h⟩ := proceed_frame s
  exact (congrArg (fun v : State => v.entry e) h :)

theorem proceed_expected : (proceed s).expected = s.expected := by
  obtain ⟨_, _, _, _, _, _, _, _, _, h⟩ := proceed_frame s
  exact (congrArg State.expected h :)

theorem proceed_conduct : (proceed s).conduct = s.conduct := by
  obtain ⟨_, _, _, _, _, _, _, _, _, h⟩ := proceed_frame s
  exact (congrArg State.conduct h :)

theorem purge_entry (e : EntryIx) : (purge t s).entry e = (purged t s).entry e := by
  have asked (v : State) : (requestSweep { v with trigger := true }).entry e = v.entry e := rfl
  rw [purge_eq, asked]
  split
  · exact proceed_entry (purged t s) e
  · rfl

theorem purge_life (e : EntryIx) : (purge t s).life e = (purgeMove t s.cycle e (s.life e)).getD (s.life e) :=
  (congrArg Entry.life (purge_entry t s e)).trans (purged_life t s e)

theorem purge_expected : (purge t s).expected = s.expected.filter (· ≠ t) := by
  have asked (v : State) : (requestSweep { v with trigger := true }).expected = v.expected := rfl
  have stands : (purged t s).expected = s.expected.filter (· ≠ t) := by
    unfold purged
    rfl
  rw [purge_eq, asked]
  split
  · exact (proceed_expected (purged t s)).trans stands
  · exact stands

theorem purge_conduct : (purge t s).conduct = s.conduct := by
  have asked (v : State) : (requestSweep { v with trigger := true }).conduct = v.conduct := rfl
  obtain ⟨_, _, _, _, _, _, h⟩ := purged_frame t s
  have stands : (purged t s).conduct = s.conduct := (congrArg State.conduct h :)
  rw [purge_eq, asked]
  split
  · exact (proceed_conduct (purged t s)).trans stands
  · exact stands

theorem purge_record (u : Tenant) : (purge t s).record u = s.record u := by
  rw [State.record, State.record, purge_conduct]

end

/-- What a purge makes of a life is on its way out of the plan. -/
theorem purgedLife_out (cycle : CycleState) (l : Life) : outOfPlan ((purgedLife cycle l).getD l) = true := by
  cases l with
  | adding a q b m f =>
    simp only [purgedLife]
    split <;> rfl
  | _ => rfl

theorem purgeMove_own {t : Tenant} {l : Life} (h : l.tenant? = some t) (cycle : CycleState) (e : EntryIx) :
    purgeMove t cycle e l = purgedLife cycle l := if_pos h

theorem purgeMove_other {t : Tenant} {l : Life} (h : l.tenant? ≠ some t) (cycle : CycleState) (e : EntryIx) :
    purgeMove t cycle e l = none := if_neg h

end Sys2Proof.Proofs
end

section
/-! PROOFS. What every step keeps of the tenants that are isolated. -/

namespace Sys2Proof.Proofs

open Machine Safety Laws

/-! ### Isolated tenants -/

/-- As `IsolatedOut`, of the tenants that are none of `ts`: those are still to be purged. -/
structure OutBut (ts : List Tenant) (s : State) : Prop where
  entries : ∀ t, (s.record t).isolated = true → t ∉ ts → ∀ e, (s.life e).tenant? = some t → outOfPlan (s.life e) = true
  answer  : ∀ t, (s.record t).isolated = true → t ∉ ts → t ∉ s.expected

theorem outBut_nil (s : State) : OutBut [] s ↔ IsolatedOut s :=
  ⟨fun h => ⟨fun t i => h.entries t i List.not_mem_nil, fun t i => h.answer t i List.not_mem_nil⟩,
    fun h => ⟨fun t i _ => h.entries t i, fun t i _ => h.answer t i⟩⟩

/-- The life keeps its tenant or becomes FREE, and what is on its way out of the plan stays so. -/
structure GoesOut (old new : Life) : Prop where
  tenant : ∀ t, new.tenant? = some t → old.tenant? = some t
  out    : outOfPlan old = true → outOfPlan new = true

theorem Fades.tenant {old new : Life} (h : Fades old new) (t : Tenant) (ht : new.tenant? = some t) : old.tenant? = some t := by
  obtain ⟨a, ha, rfl⟩ := Option.map_eq_some_iff.mp ht
  exact Option.map_eq_some_iff.mpr ⟨a, h.asked_eq ha, rfl⟩

theorem GoesOut.refl (l : Life) : GoesOut l l := ⟨fun _ => id, id⟩

theorem countedLife_goesOut {l l' : Life} (h : countedLife l = some l') : GoesOut l l' := by
  refine ⟨(countedLife_rests h).tenant, ?_⟩
  unfold countedLife at h
  split at h <;> cases h <;> exact id

theorem abandonedLife_goesOut {l l' : Life} (h : abandonedLife l = some l') : GoesOut l l' := by
  refine ⟨(abandonedLife_rests h).tenant, ?_⟩
  unfold abandonedLife at h
  split at h <;> cases h
  case h_1 => exact fun _ => rfl
  all_goals exact id

theorem cooledLife_goesOut {l l' : Life} (h : cooledLife l = some l') : GoesOut l l' := by
  refine ⟨(cooledLife_rests h).tenant, ?_⟩
  unfold cooledLife at h
  split at h <;> cases h
  exact fun _ => rfl

theorem frozenLife_goesOut {batch : BitVec 16} {l l' : Life} (h : frozenLife batch l = some l') : GoesOut l l' := by
  refine ⟨(frozenLife_rests h).tenant, ?_⟩
  unfold frozenLife at h
  split at h <;> cases h <;> exact id

theorem committedLife_goesOut {settleFrames : Nat} {l l' : Life} (h : committedLife settleFrames l = some l') : GoesOut l l' := by
  refine ⟨(committedLife_fades h).tenant, ?_⟩
  unfold committedLife at h
  split at h <;> cases h
  case h_3 =>
    intro _
    split <;> rfl
  all_goals exact id

theorem LifeMove.goesOut {cycle : CycleState} {l l' : Life} (h : LifeMove cycle l l') : GoesOut l l' := by
  refine ⟨h.rests.tenant, ?_⟩
  cases h <;> nofun

/-- Nobody else is isolated or expected to answer, and every life goes out of the plan or stays in it. -/
structure OutKept (s u : State) : Prop where
  isolated : ∀ t, (u.record t).isolated = true → (s.record t).isolated = true
  expected : ∀ t, t ∈ u.expected → t ∈ s.expected
  lives    : ∀ e, GoesOut (s.life e) (u.life e)

theorem OutKept.outBut {s u : State} (k : OutKept s u) {ts : List Tenant} (h : OutBut ts s) : OutBut ts u where
  entries t i nt e he := (k.lives e).out (h.entries t (k.isolated t i) nt e ((k.lives e).tenant t he))
  answer t i nt := h.answer t (k.isolated t i) nt ∘ k.expected t

theorem OutKept.trans {s u v : State} (h : OutKept s u) (g : OutKept u v) : OutKept s v :=
  ⟨fun t => h.isolated t ∘ g.isolated t, fun t => h.expected t ∘ g.expected t, fun e =>
    ⟨fun t => (h.lives e).tenant t ∘ (g.lives e).tenant t, (g.lives e).out ∘ (h.lives e).out⟩⟩

theorem outKept_of_same {s u : State} (conduct : u.conduct = s.conduct) (expected : u.expected = s.expected)
    (table : u.table = s.table) : OutKept s u where
  isolated t := by rw [State.record, conduct]; exact id
  expected t := by rw [expected]; exact id
  lives e := by
    rw [State.life, State.life, State.entry, State.entry, table]
    exact .refl _

theorem OutKept.refl (s : State) : OutKept s s := outKept_of_same rfl rfl rfl

theorem outKept_mapLives {f : EntryIx → Life → Option Life} (h : ∀ e l l', f e l = some l' → GoesOut l l') (s : State) :
    OutKept s (mapLives f s) := by
  obtain ⟨_, _, _, _, frame⟩ := mapLives_frame f s
  refine ⟨fun t => by rw [frame]; exact id, fun t => by rw [frame]; exact id, fun e => ?_⟩
  rw [mapLives_life]
  cases hf : f e (s.life e) with
  | none => exact .refl _
  | some l => exact h e _ l hf

theorem outKept_setLife {e : EntryIx} {l : Life} {s : State} (h : GoesOut (s.life e) l) : OutKept s (setLife e l s) := by
  refine ⟨fun _ => id, fun _ => id, fun x => ?_⟩
  rw [setLife_life_eq]
  split
  · next same => exact same ▸ h
  · exact .refl _

theorem outKept_proceed (s : State) : OutKept s (proceed s) := by
  obtain ⟨_, _, _, _, _, _, _, _, _, h⟩ := proceed_frame s
  rw [h]
  exact outKept_of_same rfl rfl rfl

theorem outKept_leaveExpected (t : Tenant) (s : State) : OutKept s (leaveExpected t s) :=
  ⟨fun _ => id, fun _ => List.mem_of_mem_filter, fun _ => .refl _⟩

theorem outKept_issueAll (ts : List Tenant) (body : NoticeBody) (s : State) : OutKept s (issueAll ts body s) := by
  obtain ⟨ports, h⟩ := issueAll_frame ts body s
  rw [h]
  exact outKept_of_same rfl rfl rfl

/-- Those that a state beside this one has just isolated are still to be purged. -/
theorem outBut_beside {ts : List Tenant} {s u : State} (plan : planOf u = planOf s) (isolated : IsolatesOnly ts s u)
    (h : IsolatedOut s) : OutBut ts u where
  entries t i nt e he := by
    rw [planOf_life plan] at he ⊢
    exact h.entries t ((isolated t i).resolve_right nt) e he
  answer t i nt := by
    rw [planOf_expected plan]
    exact h.answer t ((isolated t i).resolve_right nt)

/-- A purge sees to its tenant (R42, R153). -/
theorem purge_outBut {t : Tenant} {ts : List Tenant} {s : State} (h : OutBut (t :: ts) s) : OutBut ts (purge t s) where
  entries u i nu e he := by
    rw [purge_life] at he ⊢
    rw [purge_record] at i
    by_cases own : (s.life e).tenant? = some t
    · rw [purgeMove_own own]
      exact purgedLife_out _ _
    · rw [purgeMove_other own] at he ⊢
      refine h.entries u i (fun mem => ?_) e he
      rcases List.mem_cons.mp mem with rfl | mem
      · exact own he
      · exact nu mem
  answer u i nu := by
    rw [purge_expected]
    rw [purge_record] at i
    intro mem
    obtain ⟨mem, ne⟩ := List.mem_filter.mp mem
    refine h.answer u i (fun hu => ?_) mem
    rcases List.mem_cons.mp hu with rfl | hu
    · simp at ne
    · exact nu hu

theorem purgeAll_cons (t : Tenant) (ts : List Tenant) (s : State) : purgeAll (t :: ts) s = purgeAll ts (purge t s) := by
  unfold purgeAll
  rw [List.foldl_cons]

theorem purgeAll_isolatedOut {ts : List Tenant} {s : State} (h : OutBut ts s) : IsolatedOut (purgeAll ts s) := by
  induction ts generalizing s with
  | nil => exact (outBut_nil s).mp h
  | cons t ts ih =>
    rw [purgeAll_cons]
    exact ih (purge_outBut h)

theorem withdrawPart_expected (t : Tenant) (s : State) : (withdrawPart t s).expected = s.expected.filter (· ≠ t) := by
  obtain ⟨_, _, _, _, h⟩ := withdrawPart_frame t s
  exact (congrArg State.expected h :)

/-- What a refusal makes of each life (R106). -/
theorem withdrawPart_life (t : Tenant) (s : State) (e : EntryIx) : (withdrawPart t s).life e
    = if (s.life e).tenant? = some t then (returnedLife (s.life e)).getD (s.life e) else s.life e := by
  have left (v : State) : (leaveExpected t v).life e = v.life e := rfl
  rw [withdrawPart, left, mapLives_life]
  split <;> rfl

/-- The part of a tenant that is not isolated may return to the plan (R106). -/
theorem withdrawPart_isolatedOut {t : Tenant} {s : State} (free : (s.record t).isolated = false) (h : IsolatedOut s) :
    IsolatedOut (withdrawPart t s) := by
  have record (u : Tenant) : (withdrawPart t s).record u = s.record u := by rw [State.record, withdrawPart_conduct]; rfl
  refine ⟨fun u i e he => ?_, fun u i mem => ?_⟩
  · rw [record] at i
    have owner := ((withdrawPart_moves t s).lives e).tenant u he
    have other : (s.life e).tenant? ≠ some t := fun ht => by
      cases owner.symm.trans ht
      exact absurd (free.symm.trans i) nofun
    rw [withdrawPart_life, if_neg other]
    exact h.entries u i e owner
  · rw [record] at i
    rw [withdrawPart_expected] at mem
    exact h.answer u i (List.mem_of_mem_filter mem)

theorem foldl_withdrawPart_isolatedOut {late : List Tenant} {s : State} (free : ∀ t ∈ late, (s.record t).isolated = false)
    (h : IsolatedOut s) : IsolatedOut (late.foldl (fun s t => withdrawPart t s) s)
      ∧ (late.foldl (fun s t => withdrawPart t s) s).conduct = s.conduct := by
  induction late generalizing s with
  | nil => exact ⟨h, rfl⟩
  | cons t late ih =>
    obtain ⟨first, rest⟩ := List.forall_mem_cons.mp free
    have conduct := withdrawPart_conduct t s
    have rest' : ∀ u ∈ late, ((withdrawPart t s).record u).isolated = false := fun u hu => by
      rw [State.record, conduct]
      exact rest u hu
    obtain ⟨out, same⟩ := ih rest' (withdrawPart_isolatedOut first h)
    rw [List.foldl_cons]
    exact ⟨out, same.trans conduct⟩

theorem outKept_abandon (epoch : BitVec 32) (s : State) : OutKept s (abandon epoch s) := by
  unfold abandon
  extract_lets freed s1 s2
  have moved : OutKept s s1 := outKept_mapLives (fun _ _ _ => abandonedLife_goesOut) s
  clear_value s1
  have quiet : OutKept s1 { s1 with cycle := .quiet, trigger := true } := outKept_of_same rfl rfl rfl
  have told : OutKept s s2 := moved.trans (quiet.trans (outKept_issueAll _ _ _))
  split
  · exact told.trans (outKept_of_same rfl rfl rfl)
  · exact told

theorem outKept_imageFailed (f : Flight) (s : State) : OutKept s (imageFailed f s) := by
  unfold imageFailed
  split
  · exact (show OutKept s (giveUp s) from outKept_of_same rfl rfl rfl).trans (outKept_abandon _ _)
  · exact outKept_of_same rfl rfl rfl

theorem outKept_releaseFromBatch (t : Tenant) (e : EntryIx) (s : State) : OutKept s (releaseFromBatch t e s) := by
  unfold releaseFromBatch
  extract_lets s1
  have freed : OutKept s (setLife e .free s) := outKept_setLife ⟨nofun, fun _ => rfl⟩
  have requested : OutKept s s1 := freed.trans (outKept_of_same rfl rfl rfl)
  split
  · exact requested.trans ((outKept_leaveExpected t s1).trans (outKept_proceed _))
  · exact requested

theorem countFrame_expected (p : Profile) (holdoff : Bool) (s : State) : (countFrame p holdoff s).expected = s.expected := by
  have h := countFrame_table_only p holdoff s
  exact (congrArg State.expected h :)

theorem outKept_countFrame (p : Profile) (holdoff : Bool) (s : State) : OutKept s (countFrame p holdoff s) := by
  have counted := outKept_mapLives (fun _ _ _ => countedLife_goesOut) s
  refine ⟨fun t => by rw [countFrame_record]; exact id, fun t => by rw [countFrame_expected]; exact id, fun e => ?_⟩
  have entry := congrArg Entry.life (countFrame_entry p holdoff s e)
  change (countFrame p holdoff s).life e = _ at entry
  rw [entry]
  exact counted.lives e

theorem outKept_handWaiting (s : State) : OutKept s (handWaiting s) := by
  unfold handWaiting
  split
  · exact outKept_of_same rfl rfl rfl
  · exact .refl s

theorem outKept_endFrameSend (s : State) : OutKept s (endFrameSend s) := by
  have sent (rest : List OutFrame) (bytes : List Byte) : OutKept s { s with transmit := rest, pltx := bytes } :=
    outKept_of_same rfl rfl rfl
  unfold endFrameSend
  split
  · exact (sent _ _).trans (outKept_handWaiting _)
  · exact (sent _ _).trans (outKept_handWaiting _)
  · exact .refl s

theorem outKept_endSettle (s : State) : OutKept s (endSettle s) := by
  rw [endSettle_eq]
  have freed := outKept_mapLives (fun _ _ _ => cooledLife_goesOut) s
  generalize mapLives (fun _ l => cooledLife l) s = u at freed ⊢
  exact freed.trans (outKept_of_same (s := u) rfl rfl rfl)

/-- A life that no isolated tenant holds may take the place of one that is out of the plan or another's. -/
theorem setLife_isolatedOut {e : EntryIx} {l : Life} {s : State} (hl : ∀ t, l.tenant? = some t → (s.record t).isolated = false)
    (h : IsolatedOut s) : IsolatedOut (setLife e l s) where
  entries t i x hx := by
    rw [setLife_life_eq] at hx ⊢
    split
    · next same =>
      rw [if_pos same] at hx
      exact absurd ((hl t hx).symm.trans i) nofun
    · next other =>
      rw [if_neg other] at hx
      exact h.entries t i x hx
  answer := h.answer

theorem isolatedOut_of_kept {s u : State} (h : IsolatedOut s) (k : OutKept s u) : IsolatedOut u :=
  (outBut_nil u).mp (k.outBut ((outBut_nil s).mpr h))

theorem Happens.isolatedOut {s u : State} (h : Happens s u) (hs : IsolatedOut s) : IsolatedOut u := by
  cases h with
  | beside ts plan isolated => exact purgeAll_isolatedOut (outBut_beside plan isolated hs)
  | moved h => exact isolatedOut_of_kept hs (outKept_setLife h.goesOut)
  | @staged p e a r w q running pending =>
    have free : ∀ t, (Life.staged a q).tenant? = some t → (s.record t).isolated = false := fun t ht => by
      by_contra i
      have out := hs.entries t (Bool.eq_true_of_not_eq_false i) e (by rw [pending]; exact ht)
      rw [pending] at out
      cases out
    exact isolatedOut_of_kept (setLife_isolatedOut free hs) (outKept_of_same rfl rfl rfl)
  | counted p holdoff => exact isolatedOut_of_kept hs (outKept_countFrame p holdoff s)
  | @answered u t _ plan isolated =>
    have left := isolatedOut_of_kept hs (outKept_leaveExpected t s)
    exact isolatedOut_of_kept ((outBut_nil _).mp (outBut_beside plan isolated left)) (outKept_proceed _)
  | @refused _ late ts _ awaited plan isolated =>
    have free : ∀ t ∈ late, (s.record t).isolated = false := fun t ht => by
      by_contra i
      exact hs.answer t (Bool.eq_true_of_not_eq_false i) (awaited t ht)
    obtain ⟨withdrawn, conduct⟩ := foldl_withdrawPart_isolatedOut free hs
    have isolated' : IsolatesOnly ts (late.foldl (fun s t => withdrawPart t s) s) _ := fun t ht => by
      rw [State.record, conduct]
      exact isolated t ht
    exact purgeAll_isolatedOut ((outKept_proceed _).outBut (outBut_beside plan isolated' withdrawn))
  | released => exact isolatedOut_of_kept hs (outKept_releaseFromBatch _ _ s)
  | settled => exact isolatedOut_of_kept hs (outKept_endSettle s)
  | failed => exact isolatedOut_of_kept hs (outKept_imageFailed _ s)
  | @cancelled f =>
    exact isolatedOut_of_kept hs ((outKept_of_same (s := s) (u := handCancel f s) rfl rfl rfl).trans (outKept_imageFailed f _))
  | imageSent =>
    refine isolatedOut_of_kept hs ?_
    unfold endImageSend
    split
    · exact outKept_of_same rfl rfl rfl
    · exact .refl s
  | frameSent => exact isolatedOut_of_kept hs (outKept_endFrameSend s)
  | acknowledged => exact isolatedOut_of_kept hs (outKept_of_same rfl rfl rfl)

/-- A freeze calls nobody who is isolated (R101). -/
theorem freeze_isolatedOut (p : Profile) {s : State} (h : IsolatedOut s) : IsolatedOut (freeze p s) := by
  unfold freeze
  split
  · extract_lets s1 called s2 s3
    have flagged : OutKept s { s with trigger := false, batch := s.batch + 1 } := outKept_of_same rfl rfl rfl
    have frozen : OutKept s s1 := flagged.trans (outKept_mapLives (fun _ _ _ => frozenLife_goesOut) _)
    have before := isolatedOut_of_kept h frozen
    have trusted : ∀ t, (s1.record t).isolated = true → t ∉ called := fun t isolated mem => by
      simp [called, formExpected, isolated] at mem
    clear_value called s1
    have awaited : IsolatedOut s2 := ⟨before.entries, trusted⟩
    have told : OutKept s2 s3 := by
      obtain ⟨ports, frame⟩ := foldl_issue_frame called (fun _ t => t) (fun s t => .prepare s.batch (s.prepareItems t)) s2
      have eq : s3 = { s2 with ports := ports } := frame
      rw [eq]
      exact outKept_of_same rfl rfl rfl
    have after := isolatedOut_of_kept awaited told
    clear_value s3
    split
    · exact isolatedOut_of_kept after (outKept_of_same rfl rfl rfl)
    · exact isolatedOut_of_kept after (outKept_of_same rfl rfl rfl)
  · exact isolatedOut_of_kept h (outKept_of_same rfl rfl rfl)

theorem outKept_commit (p : Profile) (f : Flight) (s : State) : OutKept s (commit p f s) := by
  unfold commit
  extract_lets changed dropped s1 s2 s3
  have handed : OutKept s (handApply f s) := outKept_of_same rfl rfl rfl
  have moved : OutKept s s1 := handed.trans (outKept_mapLives (fun _ _ _ => committedLife_goesOut) _)
  clear_value s1
  have settling : OutKept s1 { s1 with changed := changed } := outKept_of_same rfl rfl rfl
  have told : OutKept s s2 := moved.trans (settling.trans (outKept_issueAll _ _ _))
  have swept : OutKept s2 s3 := by
    unfold s3
    split
    · exact outKept_of_same rfl rfl rfl
    · exact .refl s2
  clear_value s3
  refine told.trans (swept.trans ?_)
  split <;> exact outKept_of_same rfl rfl rfl

theorem cycleTest_isolatedOut (p : Profile) (cycle : CycleState) (holdoff : Bool) {s : State} (h : IsolatedOut s) :
    IsolatedOut (cycleTest p cycle holdoff s) := by
  unfold cycleTest
  split
  · exact h
  split
  · split
    · exact freeze_isolatedOut p h
    · exact h
  · split
    · exact isolatedOut_of_kept h (outKept_commit p _ s)
    · exact h
  · split
    · exact isolatedOut_of_kept h (outKept_of_same rfl rfl rfl)
    · exact h
  · exact h
  · exact h

theorem loadSuccess_isolatedOut (kind : LoadKind) (p : Profile) {s : State} (h : IsolatedOut s) :
    IsolatedOut (loadSuccess kind p s) := by
  unfold loadSuccess
  refine isolatedOut_of_kept ?_ (outKept_handWaiting _)
  exact ⟨h.entries, h.answer⟩

theorem beginReload_record (s : State) (t : Tenant) : (beginReload s).record t = resetConduct := replicate_conduct t

theorem isolatedOut_kept : KeptByAll IsolatedOut where
  happens := Happens.isolatedOut
  reset := isolatedOut_reset
  stopped _ _ h := ⟨h.entries, h.answer⟩
  reloaded {s} _ := by
    refine ⟨fun t i => ?_, fun t i => ?_⟩ <;>
    · rw [beginReload_record] at i
      cases i
  started kind _ _ h := loadSuccess_isolatedOut kind _ h
  placed {s u p t f} _ notIsolated ends h := by
    have bumped (e : EntryIx) : IsolatedOut (bumpGeneration e s) :=
      isolatedOut_of_kept h ⟨fun _ => id, fun _ => id, fun x => by rw [bumpGeneration_life]; exact .refl _⟩
    have given {q : PlaceAsk} {a : Asked} (admitted : admission p t f = .ok (q, a)) {l : Life} (hl : l.asked? = some a) (u : Tenant)
        (hu : l.tenant? = some u) : (s.record u).isolated = false := by
      rw [Life.tenant?, hl, Option.map_some, admission_tenant p t f q a admitted] at hu
      cases hu
      exact notIsolated
    obtain _ | _ | @⟨e, q, a, b, admitted, _, _⟩ | @⟨e, q, a, r, admitted, _⟩ := ends
    · exact h
    · exact bumped _
    · exact isolatedOut_of_kept
        (setLife_isolatedOut (s := bumpGeneration e s) (l := .staged a b) (given admitted rfl) (bumped e))
        (outKept_of_same (s := setLife e (.staged a b) (bumpGeneration e s)) (u := stage p e a b (bumpGeneration e s)) rfl rfl rfl)
    · have listed : IsolatedOut (joinList p.rankMode e a (bumpGeneration e s)) :=
        isolatedOut_of_kept (bumped e)
          (outKept_of_same (s := bumpGeneration e s) (u := joinList p.rankMode e a (bumpGeneration e s)) rfl rfl rfl)
      exact setLife_isolatedOut (s := joinList p.rankMode e a (bumpGeneration e s)) (l := .pending a r q.waitLimit)
        (given admitted rfl) listed
  tested {s u p} holdoff _ _ _ h := cycleTest_isolatedOut p s.cycle holdoff h

/-- Settles O55: a tenant is isolated only where its purge follows, and nothing of an isolated tenant comes back. -/
theorem stepKeepsIsolatedOut : Obligations.StepKeepsIsolatedOut := isolatedOut_kept.step

end Sys2Proof.Proofs
end

section
/-! PROOFS. The cycle's agreement with its entries, sets, countdowns and the plan link, in two parts: what stands beside the cycle
state, and the link. With them the moves that begin and end a batch are each shown to keep it. -/

namespace Sys2Proof.Proofs

open Machine Safety Laws

/-! ### The two parts -/

/-- The part of `CycleOk` that the plan link has no say in. -/
structure CyclePart (s : State) : Prop where
  lives    : ∀ e, lifeFits s.cycle s.batch (s.life e) = true
  prepare  : s.prepareLeft.isSome = decide (s.cycle = .preparing)
  settle   : s.settleLeft.isSome = decide (s.cycle = .settling)
  changed  : s.cycle ≠ .settling → s.changed = []
  expected : s.expected = [] ↔ s.cycle ≠ .preparing
  called   : s.cycle ≠ .preparing → s.called = []
  subset   : ∀ t, t ∈ s.expected → t ∈ s.called

/-- No image waits to be handed over or stands in the transmit order, which holds at most one frame, with the device RUNNING. -/
structure LinkFree (s : State) : Prop where
  short   : s.transmit.length ≤ 1
  frames  : ∀ g ∈ s.transmit, OutFrame.isImage g = false
  waiting : s.startUpWaiting = none
  running : s.profile? ≠ none

/-- As `LinkFree`, with no image in flight. -/
structure LinkIdle (s : State) : Prop extends LinkFree s where
  inFlight : s.inFlight = none
  link     : s.link = .idle
  ackWait  : s.ackWait = none

theorem cyclePart_of_ok {s : State} (ok : CycleOk s) : CyclePart s :=
  ⟨ok.lives, ok.prepare, ok.settle, ok.changed, ok.expected, ok.called, ok.subset⟩

/-- Outside INITIAL and ARMED nothing is in flight. -/
theorem linkIdle_of_ok {s : State} (ok : CycleOk s) (initial : s.cycle ≠ .initial) (armed : s.cycle ≠ .armed) : LinkIdle s := by
  have none : s.inFlight = none := by
    cases hf : s.inFlight with
    | none => rfl
    | some f =>
      cases hk : f.image.kind with
      | batch => exact absurd (ok.armed.mpr ⟨f, hf, hk⟩) armed
      | startUp => exact absurd (ok.startUp f hf hk) initial
  have idle := ok.flight.mp none
  have short := ok.unsent idle
  rw [if_neg initial] at short
  refine ⟨⟨short.1, short.2, ?_, fun h => initial (ok.noProfile h).1⟩, none, idle, ?_⟩
  · cases hw : s.startUpWaiting with
    | none => rfl
    | some i => exact absurd (ok.waiting i hw).2.1 initial
  · simpa [idle] using ok.wait

theorem cycleOk_of_linkIdle {s : State} (part : CyclePart s) (link : LinkIdle s) (initial : s.cycle ≠ .initial)
    (armed : s.cycle ≠ .armed) : CycleOk s where
  lives := part.lives
  prepare := part.prepare
  settle := part.settle
  changed := part.changed
  expected := part.expected
  called := part.called
  subset := part.subset
  armed := by simp [armed, link.inFlight]
  startUp f hf := by simp [link.inFlight] at hf
  flight := by simp [link.inFlight, link.link]
  wait := by simp [link.ackWait, link.link]
  sending h := by simp [link.link] at h
  sent h := by simp [link.link] at h
  unsent _ := ⟨by rw [if_neg initial]; exact link.short, link.frames⟩
  waiting i hi := by simp [link.waiting] at hi
  noProfile h := absurd h link.running

/-- An image is handed over where its cycle state has come and the transmit order is free of images (R111, R129). -/
theorem handImage_cycleOk {s : State} {image : PlanImage} (part : CyclePart s) (link : LinkFree s)
    (kind : (match image.kind with | .batch => CycleState.armed | .startUp => .initial) = s.cycle) :
    CycleOk (handImage image s) where
  lives := part.lives
  prepare := part.prepare
  settle := part.settle
  changed := part.changed
  expected := part.expected
  called := part.called
  subset := part.subset
  armed := by
    change s.cycle = .armed ↔ ∃ f, some _ = some f ∧ _
    rw [← kind]
    cases hk : image.kind <;> simp [hk]
  startUp f hf hk := by
    cases hf
    change image.kind = .startUp at hk
    rw [hk] at kind
    exact kind.symm
  flight := ⟨nofun, nofun⟩
  wait := rfl
  sending _ := ⟨_, s.transmit, rfl, rfl, link.short, link.frames⟩
  sent h := by simp [handImage] at h
  unsent h := by simp [handImage] at h
  waiting i hi := by
    change s.startUpWaiting = some i at hi
    simp [link.waiting] at hi
  noProfile h := absurd h link.running

theorem imageOk_of_cycle {s : State} (h : s.cycle ≠ .armed) : ImageOk s := fun armed => absurd armed h

/-! ### What agrees likewise -/

theorem cycleOk_planOf (s : State) : CycleOk (planOf s) ↔ CycleOk s where
  mp h := ⟨h.lives, h.prepare, h.settle, h.changed, h.expected, h.called, h.subset, h.armed, h.startUp, h.flight, h.wait, h.sending,
    h.sent, h.unsent, h.waiting, h.noProfile⟩
  mpr h := ⟨h.lives, h.prepare, h.settle, h.changed, h.expected, h.called, h.subset, h.armed, h.startUp, h.flight, h.wait, h.sending,
    h.sent, h.unsent, h.waiting, h.noProfile⟩

theorem imageOk_planOf (s : State) : ImageOk (planOf s) ↔ ImageOk s := Iff.rfl

/-- The cycle agrees, the image in flight too if it did before; QUIET stays QUIET, and INITIAL is neither left nor entered: it takes
the freeze or commit test, or a load, to leave them. -/
structure CycleKept (s u : State) : Prop where
  ok      : CycleOk u
  image   : ImageOk s → ImageOk u
  quiet   : s.cycle = .quiet → u.cycle = .quiet
  initial : u.cycle = .initial ↔ s.cycle = .initial

theorem CycleKept.refl {s : State} (ok : CycleOk s) : CycleKept s s := ⟨ok, id, id, Iff.rfl⟩

theorem CycleKept.trans {s u v : State} (h : CycleKept s u) (g : CycleKept u v) : CycleKept s v :=
  ⟨g.ok, g.image ∘ h.image, g.quiet ∘ h.quiet, g.initial.trans h.initial⟩

/-- Nothing of the plan moves. -/
theorem cycleKept_of_plan {s u : State} (h : planOf u = planOf s) (ok : CycleOk s) : CycleKept s u where
  ok := (cycleOk_planOf u).mp (h ▸ (cycleOk_planOf s).mpr ok)
  image i := (imageOk_planOf u).mp (h ▸ (imageOk_planOf s).mpr i)
  quiet q := (planOf_cycle h).trans q
  initial := by rw [planOf_cycle h]

/-- Of the plan, the table and its sums have moved alone. -/
def TableOnly (s u : State) : Prop :=
  ∃ table load held count, planOf u = planOf { s with table := table, load := load, held := held, entryCount := count }

theorem tableOnly_setLife (e : EntryIx) (l : Life) (s : State) : TableOnly s (setLife e l s) := ⟨_, _, _, _, rfl⟩

/-- Lives move as the cycle state lets them, and in ARMED with what the image in flight says of them. -/
theorem cycleKept_of_lives {s u : State} (frame : TableOnly s u)
    (fits : ∀ e, lifeFits s.cycle s.batch (s.life e) = true → lifeFits s.cycle s.batch (u.life e) = true)
    (air : s.cycle = .armed → ∀ e, onAirNext? (u.life e) = onAirNext? (s.life e)) (ok : CycleOk s) : CycleKept s u := by
  obtain ⟨a, b, c, d, plan⟩ := frame
  have life (e : EntryIx) := planOf_life plan e
  have moved : CycleOk { s with table := a, load := b, held := c, entryCount := d } :=
    { ok with lives := fun e => life e ▸ fits e (ok.lives e) }
  have kept := cycleKept_of_plan plan moved
  refine ⟨kept.ok, fun image => kept.image fun armed => ?_, kept.quiet, kept.initial⟩
  obtain ⟨f, flying, kind, epoch, batch, sorted, perm⟩ := image armed
  refine ⟨f, flying, kind, epoch, batch, sorted, ?_⟩
  simpa only [← life, air armed] using perm

/-! ### The lives that fit a cycle state -/

section
variable {cycle : CycleState} {batch : BitVec 16} {l l' : Life}

theorem LifeMove.fits (h : LifeMove cycle l l') (fits : lifeFits cycle batch l = true) : lifeFits cycle batch l' = true := by
  cases h with
  | marked a q b f other => simp_all [lifeFits]
  | retired a q left => exact fits
  | _ => rfl

theorem LifeMove.onAirNext (h : LifeMove cycle l l') : onAirNext? l' = onAirNext? l := by cases h <;> rfl

theorem countedLife_fits (h : countedLife l = some l') (fits : lifeFits cycle batch l = true) : lifeFits cycle batch l' = true := by
  unfold countedLife at h
  split at h <;> cases h <;> exact fits

theorem countedLife_onAirNext (h : countedLife l = some l') : onAirNext? l' = onAirNext? l := by
  unfold countedLife at h
  split at h <;> cases h <;> rfl

theorem purgedLife_fits (h : purgedLife cycle l = some l') (fits : lifeFits cycle batch l = true) :
    lifeFits cycle batch l' = true := by
  unfold purgedLife at h
  split at h
  case h_4 =>
    split at h
    · cases h
      rfl
    · cases h
      simp_all [lifeFits]
  all_goals cases h
  all_goals exact fits

theorem purgedLife_onAirNext (other : cycle ≠ .preparing) (h : purgedLife cycle l = some l') : onAirNext? l' = onAirNext? l := by
  unfold purgedLife at h
  split at h
  case h_4 =>
    rw [if_neg other] at h
    cases h
    rfl
  all_goals cases h
  all_goals rfl

theorem returnedLife_fits (h : returnedLife l = some l') (fits : lifeFits .preparing batch l = true) :
    lifeFits .preparing batch l' = true := by
  unfold returnedLife at h
  split at h <;> cases h <;> rfl

/-- What a freeze has made of a life fits PREPARING, and in ARMED alike (R101). -/
theorem frozenLife_fits {new : BitVec 16} (next : cycle = .preparing ∨ cycle = .armed) (fits : lifeFits .quiet batch l = true) :
    lifeFits cycle new ((frozenLife new l).getD l) = true := by
  cases l <;> rcases next with rfl | rfl <;> simp_all [lifeFits, frozenLife]

/-- A life of a batch whose prepare phase is over fits ARMED (R111). -/
theorem lifeFits_armed (fits : lifeFits .preparing batch l = true) : lifeFits .armed batch l = true := by
  cases l <;> simp_all [lifeFits]

/-- A life of PREPARING that is in no batch fits QUIET (R108). -/
theorem lifeFits_quiet (fits : lifeFits .preparing batch l = true) (none : l.inBatch? = none) : lifeFits .quiet batch l = true := by
  cases l <;> simp_all [lifeFits, Life.inBatch?]

theorem committedLife_fits {settleFrames : Nat} (fits : lifeFits .armed batch l = true) :
    lifeFits (if 0 < settleFrames then .settling else .quiet) batch ((committedLife settleFrames l).getD l) = true := by
  by_cases h : 0 < settleFrames <;> cases l with
  | adding a q b m f => cases m <;> simp [h, lifeFits, committedLife]
  | _ => simp_all [lifeFits, committedLife]

theorem abandonedLife_fits (fits : lifeFits .armed batch l = true) :
    lifeFits .quiet batch ((abandonedLife l).getD l) = true := by
  cases l with
  | adding a q b m f => cases m <;> simp [lifeFits, abandonedLife]
  | _ => simp_all [lifeFits, abandonedLife]

theorem cooledLife_fits (fits : lifeFits .settling batch l = true) : lifeFits .quiet batch ((cooledLife l).getD l) = true := by
  cases l <;> simp_all [lifeFits, cooledLife]

/-- What fits INITIAL fits every cycle state. -/
theorem lifeFits_of_initial (fits : lifeFits .initial batch l = true) : lifeFits cycle batch l = true := by
  cases l <;> simp_all [lifeFits]

end

/-! ### The end of the prepare phase (R108, R111) -/

theorem table_toList (s : State) : s.table.toList = allEntries.map s.entry := by
  apply List.ext_getElem
  · simp [allEntries]
  · intro i _ _
    simp [allEntries, State.entry]

theorem descriptor?_eq (l : Life) : l.descriptor? = (onAirNext? l).map describe := by cases l <;> rfl

/-- The batch image is what the commit will put on air, in ascending order (R111, R124). -/
theorem batchImage_spans (s : State) : (batchImage s).spans.Pairwise (fun x y => x.first ≤ y.first)
    ∧ (batchImage s).spans.Perm (allEntries.filterMap fun e => (onAirNext? (s.life e)).map describe) := by
  have total : Std.Total fun x y : Descriptor => x.first ≤ y.first := ⟨fun x y => Nat.le_total x.first y.first⟩
  have trans : IsTrans Descriptor fun x y => x.first ≤ y.first := ⟨fun _ _ _ => Nat.le_trans⟩
  refine ⟨List.pairwise_insertionSort _ _, (List.perm_insertionSort _ _).trans (.of_eq ?_)⟩
  rw [table_toList, List.filterMap_map]
  exact List.filterMap_congr fun e _ => descriptor?_eq (s.life e)

/-- The answers to a batch are awaited, or the last has just come in: everything but that somebody is still expected. -/
structure Expecting (s : State) : Prop where
  preparing : s.cycle = .preparing
  lives     : ∀ e, lifeFits .preparing s.batch (s.life e) = true
  countdown : s.prepareLeft.isSome = true
  settle    : s.settleLeft = none
  changed   : s.changed = []
  subset    : ∀ t, t ∈ s.expected → t ∈ s.called
  link      : LinkIdle s

theorem expecting_of_ok {s : State} (ok : CycleOk s) (h : s.cycle = .preparing) : Expecting s where
  preparing := h
  lives := h ▸ ok.lives
  countdown := by simp [ok.prepare, h]
  settle := by simpa [h] using ok.settle
  changed := ok.changed (by simp [h])
  subset := ok.subset
  link := linkIdle_of_ok ok (by simp [h]) (by simp [h])

/-- A batch that is formed and that nobody is to answer for is ARMED. -/
theorem becomeArmed_cycleOk {s : State} (lives : ∀ e, lifeFits .armed s.batch (s.life e) = true) (settle : s.settleLeft = none)
    (changed : s.changed = []) (expected : s.expected = []) (link : LinkFree s) :
    CycleOk (becomeArmed s) ∧ ImageOk (becomeArmed s) := by
  have part : CyclePart { s with cycle := .armed, prepareLeft := none, called := [] } :=
    { lives := lives, prepare := rfl, settle := by simp [settle], changed := fun _ => changed
      expected := by simp [expected], called := fun _ => rfl, subset := by simp [expected] }
  obtain ⟨sorted, perm⟩ := batchImage_spans s
  exact ⟨handImage_cycleOk part ⟨link.short, link.frames, link.waiting, link.running⟩ rfl,
    fun _ => ⟨_, rfl, rfl, rfl, rfl, sorted, perm⟩⟩

theorem batchEmpty_cycleOk {s : State} (h : Expecting s) (expected : s.expected = []) (empty : ∀ e, (s.life e).inBatch? = none) :
    CycleOk (batchEmpty s) := by
  have quiet : CycleOk { s with cycle := .quiet, prepareLeft := none, called := [] } :=
    cycleOk_of_linkIdle
      { lives := fun e => lifeFits_quiet (h.lives e) (empty e), prepare := rfl, settle := by simp [h.settle]
        changed := fun _ => h.changed, expected := by simp [expected], called := fun _ => rfl, subset := by simp [expected] }
      ⟨⟨h.link.short, h.link.frames, h.link.waiting, h.link.running⟩, h.link.inFlight, h.link.link, h.link.ackWait⟩ nofun nofun
  have plan : planOf (batchEmpty s) = planOf { s with cycle := .quiet, prepareLeft := none, called := [] } := by
    obtain ⟨ports, told⟩ := issueAll_frame s.called (.abandoned s.batch none) s
    rw [batchEmpty, told]
    rfl
  exact (cycleKept_of_plan plan quiet).ok

/-- The cycle proceeds when the last answer has come in, and until then stays as it is. -/
theorem proceed_ok {s : State} (h : Expecting s) : CycleOk (proceed s) ∧ ImageOk (proceed s) := by
  unfold proceed
  split
  · next last =>
    split
    · exact becomeArmed_cycleOk (fun e => lifeFits_armed (h.lives e)) h.settle h.changed last.2 h.link.toLinkFree
    · next batch =>
      have empty (e : EntryIx) : (s.life e).inBatch? = none := by
        simp only [table_toList, List.any_map, List.any_eq_true, not_exists, not_and] at batch
        exact Option.not_isSome_iff_eq_none.mp (batch e (List.mem_finRange e))
      exact ⟨batchEmpty_cycleOk h last.2 empty, imageOk_of_cycle nofun⟩
  · next more =>
    have expected : s.expected ≠ [] := fun none => more ⟨h.preparing, none⟩
    refine ⟨cycleOk_of_linkIdle ?_ h.link ?_ ?_, imageOk_of_cycle ?_⟩
    · exact { lives := h.preparing ▸ h.lives, prepare := by simp [h.countdown, h.preparing], settle := by simp [h.settle, h.preparing]
              changed := fun _ => h.changed, expected := by simp [expected, h.preparing]
              called := fun other => absurd h.preparing other, subset := h.subset }
    all_goals rw [h.preparing]; nofun

end Sys2Proof.Proofs
end

section
/-! PROOFS. Every happening, the freeze and the commit, and the loads keep the cycle in agreement with its entries, sets, countdowns
and image. -/

namespace Sys2Proof.Proofs

open Machine Safety Laws

/-! ### Answers awaited -/

theorem expecting_planOf (s : State) : Expecting (planOf s) ↔ Expecting s where
  mp h := ⟨h.preparing, h.lives, h.countdown, h.settle, h.changed, h.subset,
    ⟨h.link.short, h.link.frames, h.link.waiting, h.link.running⟩, h.link.inFlight, h.link.link, h.link.ackWait⟩
  mpr h := ⟨h.preparing, h.lives, h.countdown, h.settle, h.changed, h.subset,
    ⟨h.link.short, h.link.frames, h.link.waiting, h.link.running⟩, h.link.inFlight, h.link.link, h.link.ackWait⟩

theorem expecting_of_plan {s u : State} (plan : planOf u = planOf s) (h : Expecting s) : Expecting u :=
  (expecting_planOf u).mp (plan ▸ (expecting_planOf s).mpr h)

/-- Some tenants need not answer after all, and lives move as PREPARING lets them. -/
theorem expecting_of_fewer {s u : State} {table : Vector Entry 256} {load : PerDir} {held : Vector PerDir 4} {count : Vector Nat 4}
    {expected called : List Tenant}
    (plan : planOf u = planOf { s with
      table := table, load := load, held := held, entryCount := count, expected := expected, called := called })
    (fits : ∀ e, lifeFits .preparing s.batch (s.life e) = true → lifeFits .preparing s.batch (u.life e) = true)
    (subset : (∀ t, t ∈ s.expected → t ∈ s.called) → ∀ t, t ∈ expected → t ∈ called) (h : Expecting s) :
    Expecting u := by
  refine expecting_of_plan plan ?_
  exact { preparing := h.preparing, lives := fun e => planOf_life plan e ▸ fits e (h.lives e), countdown := h.countdown
          settle := h.settle, changed := h.changed, subset := subset h.subset
          link := ⟨⟨h.link.short, h.link.frames, h.link.waiting, h.link.running⟩, h.link.inFlight, h.link.link, h.link.ackWait⟩ }

theorem leaveExpected_expecting (t : Tenant) {s : State} (h : Expecting s) : Expecting (leaveExpected t s) :=
  expecting_of_fewer (u := leaveExpected t s) (table := s.table) (load := s.load) (held := s.held) (count := s.entryCount)
    (called := s.called) rfl (fun _ => id) (fun sub u hu => sub u (List.mem_of_mem_filter hu)) h

theorem withdrawPart_expecting (t : Tenant) {s : State} (h : Expecting s) : Expecting (withdrawPart t s) := by
  obtain ⟨_, _, _, _, frame⟩ := withdrawPart_frame t s
  refine expecting_of_fewer (congrArg planOf frame) (fun e fits => ?_) (fun sub u hu => sub u (List.mem_of_mem_filter hu)) h
  rw [withdrawPart_life]
  split
  · cases hl : returnedLife (s.life e) with
    | none => exact fits
    | some l => exact returnedLife_fits hl fits
  · exact fits

theorem foldl_withdrawPart_expecting (late : List Tenant) {s : State} (h : Expecting s) :
    Expecting (late.foldl (fun s t => withdrawPart t s) s) := by
  induction late generalizing s with
  | nil => exact h
  | cons t late ih =>
    rw [List.foldl_cons]
    exact ih (withdrawPart_expecting t h)

theorem proceed_cycle {s : State} (h : s.cycle ≠ .initial) : (proceed s).cycle ≠ .initial := by
  unfold proceed
  split
  · split <;> nofun
  · exact h

theorem cycleKept_proceed {s u : State} (preparing : s.cycle = .preparing) (h : Expecting u) : CycleKept s (proceed u) where
  ok := (proceed_ok h).1
  image _ := (proceed_ok h).2
  quiet q := absurd (preparing.symm.trans q) nofun
  initial := by
    have stays := proceed_cycle (s := u) (by rw [h.preparing]; nofun)
    simp [stays, preparing]

/-! ### The purge -/

theorem purgeMove_fits {t : Tenant} {cycle : CycleState} {batch : BitVec 16} {e : EntryIx} {l : Life}
    (fits : lifeFits cycle batch l = true) : lifeFits cycle batch ((purgeMove t cycle e l).getD l) = true := by
  cases hl : purgeMove t cycle e l with
  | none => exact fits
  | some l' =>
    unfold purgeMove at hl
    split at hl
    · exact purgedLife_fits hl fits
    · cases hl

theorem purgeMove_onAirNext {t : Tenant} {cycle : CycleState} {e : EntryIx} {l : Life} (other : cycle ≠ .preparing) :
    onAirNext? ((purgeMove t cycle e l).getD l) = onAirNext? l := by
  cases hl : purgeMove t cycle e l with
  | none => rfl
  | some l' =>
    unfold purgeMove at hl
    split at hl
    · exact purgedLife_onAirNext other hl
    · cases hl

theorem purged_expecting (t : Tenant) {s : State} (h : Expecting s) : Expecting (purged t s) := by
  obtain ⟨_, _, _, _, _, _, frame⟩ := purged_frame t s
  have plan := congrArg planOf frame
  refine expecting_of_fewer (s := s) plan (fun e fits => ?_) (fun sub u hu => ?_) h
  · rw [purged_life, h.preparing]
    exact purgeMove_fits fits
  · exact List.mem_filter.mpr ⟨sub u (List.mem_of_mem_filter hu), (List.mem_filter.mp hu).2⟩

theorem purged_tableOnly (t : Tenant) {s : State} (expected : s.expected = []) (called : s.called = []) :
    TableOnly s (purged t s) := by
  obtain ⟨a, b, c, d, _, _, frame⟩ := purged_frame t s
  refine ⟨a, b, c, d, (congrArg planOf frame).trans ?_⟩
  have none (xs : List Tenant) (h : xs = []) : xs.filter (· ≠ t) = xs := by rw [h]; rfl
  rw [none _ expected, none _ called]
  rfl

/-- Outside PREPARING a purge moves the tenant's entries alone; in it, the cycle may proceed (R42). -/
theorem purge_cycleKept (t : Tenant) {s : State} (ok : CycleOk s) : CycleKept s (purge t s) := by
  have asked (v : State) : planOf (requestSweep { v with trigger := true }) = planOf v := rfl
  by_cases preparing : s.cycle = .preparing
  · have proceeds : (if t ∈ s.expected then proceed (purged t s) else purged t s) = proceed (purged t s) := by
      split
      · rfl
      · next out =>
        refine (proceed_eq_self _ (.inr ?_)).symm
        have stays : (purged t s).expected = s.expected :=
          List.filter_eq_self.mpr fun u hu => decide_eq_true fun same => out (same ▸ hu)
        rw [stays]
        exact fun none => ok.expected.mp none preparing
    have kept := cycleKept_proceed preparing (purged_expecting t (expecting_of_ok ok preparing))
    rw [purge_eq, proceeds]
    exact kept.trans (cycleKept_of_plan (asked _) kept.ok)
  · have expected : s.expected = [] := ok.expected.mpr preparing
    have plan : planOf (purge t s) = planOf (purged t s) := by rw [purge_eq, asked, if_neg (by simp [expected])]
    obtain ⟨_, _, _, _, frame⟩ := purged_tableOnly t expected (ok.called preparing)
    refine cycleKept_of_lives ⟨_, _, _, _, plan.trans frame⟩ (fun e fits => ?_) (fun _ e => ?_) ok
    · rw [purge_life]
      exact purgeMove_fits fits
    · rw [purge_life]
      exact purgeMove_onAirNext preparing

theorem purgeAll_cycleKept (ts : List Tenant) {s : State} (ok : CycleOk s) : CycleKept s (purgeAll ts s) := by
  induction ts generalizing s with
  | nil => exact .refl ok
  | cons t ts ih =>
    have first := purge_cycleKept t ok
    rw [purgeAll_cons]
    exact first.trans (ih first.ok)

/-! ### Counts, releases, the settle end -/

theorem countFrame_counts (p : Profile) (holdoff : Bool) (s : State) (e : EntryIx) :
    (countFrame p holdoff s).life e = (countedLife (s.life e)).getD (s.life e) :=
  (congrArg Entry.life (countFrame_entry p holdoff s e)).trans (mapLives_life _ s e)

theorem life_of_table (s u : State) (e : EntryIx) : ({ s with table := u.table } : State).life e = u.life e := rfl

/-- The countdowns of the cycle stay where they stand, whatever they read. -/
theorem cycleKept_of_counts {s : State} {prepare settle wait : Option Nat} (hp : prepare.isSome = s.prepareLeft.isSome)
    (hs : settle.isSome = s.settleLeft.isSome) (hw : wait.isSome = s.ackWait.isSome) (ok : CycleOk s) :
    CycleKept s { s with prepareLeft := prepare, settleLeft := settle, ackWait := wait } where
  ok := { ok with prepare := hp.trans ok.prepare, settle := hs.trans ok.settle, wait := hw.trans ok.wait }
  image := id
  quiet := id
  initial := Iff.rfl

theorem countFrame_cycleKept (p : Profile) (holdoff : Bool) {s : State} (ok : CycleOk s) : CycleKept s (countFrame p holdoff s) := by
  have plan := congrArg planOf (countFrame_table_only p holdoff s)
  have counted (e : EntryIx) : ({ s with table := (countFrame p holdoff s).table } : State).life e
      = (countedLife (s.life e)).getD (s.life e) := (life_of_table s _ e).trans (countFrame_counts p holdoff s e)
  generalize (countFrame p holdoff s).table = table at plan counted
  have lives : CycleKept s { s with table := table } := by
    refine cycleKept_of_lives ⟨_, _, _, _, rfl⟩ (fun e fits => ?_) (fun _ e => ?_) ok
    all_goals
      rw [counted]
      cases hl : countedLife (s.life e)
    · exact fits
    · exact countedLife_fits hl fits
    · rfl
    · exact countedLife_onAirNext hl
  have isSome (c : Prop) [Decidable c] (f : Nat → Nat) (x : Option Nat) : (if c then x.map f else x).isSome = x.isSome := by
    split <;> simp
  have counts := lives.trans (cycleKept_of_counts (isSome (s.cycle = .preparing) (· - 1) s.prepareLeft)
    (isSome (s.cycle = .settling) (· - 1) s.settleLeft)
    (isSome (s.link = .waitAck ∧ holdoff = false) (· + 1) s.ackWait) lives.ok)
  exact counts.trans (cycleKept_of_plan plan counts.ok)

theorem releaseFromBatch_cycleKept {t : Tenant} {e : EntryIx} {s : State} (preparing : s.cycle = .preparing) (ok : CycleOk s) :
    CycleKept s (releaseFromBatch t e s) := by
  unfold releaseFromBatch
  extract_lets s1
  have freed : CycleKept s (setLife e .free s) := by
    refine cycleKept_of_lives (tableOnly_setLife e .free s) (fun x fits => ?_)
      (fun armed => absurd (preparing.symm.trans armed) nofun) ok
    rw [setLife_life_eq]
    split
    · rfl
    · exact fits
  have requested : CycleKept s s1 := freed.trans (cycleKept_of_plan (s := setLife e .free s) rfl freed.ok)
  split
  · exact cycleKept_proceed preparing (leaveExpected_expecting t (expecting_of_ok requested.ok preparing))
  · exact requested

/-- A batch or its settle window ends in QUIET. -/
theorem cycleKept_of_quiet {s u : State} (before : s.cycle ≠ .initial) (after : u.cycle = .quiet) (ok : CycleOk u) :
    CycleKept s u :=
  ⟨ok, fun _ => imageOk_of_cycle (by rw [after]; nofun), fun _ => after, by simp [before, after]⟩

/-- No batch is formed, and the link is IDLE. -/
theorem cycleOk_of_calm {s : State} (calm : s.cycle = .quiet ∨ s.cycle = .settling)
    (lives : ∀ e, lifeFits s.cycle s.batch (s.life e) = true) (prepare : s.prepareLeft = none)
    (settle : s.settleLeft.isSome = decide (s.cycle = .settling)) (changed : s.cycle ≠ .settling → s.changed = [])
    (expected : s.expected = []) (called : s.called = []) (link : LinkIdle s) : CycleOk s := by
  have others : s.cycle ≠ .preparing ∧ s.cycle ≠ .initial ∧ s.cycle ≠ .armed := by rcases calm with h | h <;> simp [h]
  obtain ⟨preparing, initial, armed⟩ := others
  exact cycleOk_of_linkIdle
    { lives := lives, prepare := by simp [prepare, preparing], settle := settle, changed := changed
      expected := by simp [expected, preparing], called := fun _ => called, subset := by simp [expected] }
    link initial armed

theorem cycleOk_of_quiet {s : State} (quiet : s.cycle = .quiet) (lives : ∀ e, lifeFits .quiet s.batch (s.life e) = true)
    (prepare : s.prepareLeft = none) (settle : s.settleLeft = none) (changed : s.changed = []) (expected : s.expected = [])
    (called : s.called = []) (link : LinkIdle s) : CycleOk s :=
  cycleOk_of_calm (.inl quiet) (quiet ▸ lives) prepare (by simp [settle, quiet]) (fun _ => changed) expected called link

theorem endSettle_life (s : State) (e : EntryIx) : (endSettle s).life e = (cooledLife (s.life e)).getD (s.life e) := by
  have ended (v : State) : (requestSweep { v with changed := [], settleLeft := none, cycle := .quiet }).life e = v.life e := rfl
  rw [endSettle_eq, ended, mapLives_life]

theorem endSettle_cycleKept {s : State} (settling : s.cycle = .settling) (ok : CycleOk s) : CycleKept s (endSettle s) := by
  have link := linkIdle_of_ok ok (by rw [settling]; nofun) (by rw [settling]; nofun)
  obtain ⟨a, b, c, d, frame⟩ := mapLives_frame (fun _ l => cooledLife l) s
  have plan : planOf (endSettle s) = planOf { s with
      table := a, load := b, held := c, entryCount := d, changed := [], settleLeft := none, cycle := .quiet } := by
    rw [endSettle_eq, frame]
    rfl
  have ended := cycleOk_of_quiet (s := { s with
      table := a, load := b, held := c, entryCount := d, changed := [], settleLeft := none, cycle := .quiet }) rfl
    (fun e => by
      rw [← planOf_life plan e, endSettle_life]
      exact cooledLife_fits (settling ▸ ok.lives e))
    (by simpa [settling] using ok.prepare) rfl rfl (ok.expected.mpr (by simp [settling])) (ok.called (by simp [settling]))
    ⟨⟨link.short, link.frames, link.waiting, link.running⟩, link.inFlight, link.link, link.ackWait⟩
  exact cycleKept_of_quiet (by rw [settling]; nofun) (planOf_cycle plan) (cycleKept_of_plan plan ended).ok

/-! ### The plan link -/

/-- With an image in flight and wholly sent, nothing else waits or is to be sent but what is handed over now. -/
theorem linkFree_of_flight {s : State} {f : Flight} (ok : CycleOk s) (flying : s.inFlight = some f) {frames : List OutFrame}
    (short : frames.length ≤ 1) (other : ∀ g ∈ frames, OutFrame.isImage g = false) : LinkFree { s with transmit := frames } where
  short := short
  frames := other
  waiting := by
    cases hw : s.startUpWaiting with
    | none => rfl
    | some i => simp [(ok.waiting i hw).2.2.1] at flying
  running h := by simp [(ok.noProfile h).2] at flying

theorem sent_of_answerable {s : State} {f : Flight} (ok : CycleOk s) (h : Answerable s f) : s.transmit = [] := ok.sent h.1

/-- Behind an image wholly sent, CANCEL stands alone in the transmit order. -/
theorem cancel_alone {s : State} {f : Flight} (ok : CycleOk s) (h : Answerable s f) :
    (s.transmit ++ [OutFrame.cancel f.image.epoch f.send]).length ≤ 1
    ∧ ∀ g ∈ s.transmit ++ [OutFrame.cancel f.image.epoch f.send], OutFrame.isImage g = false := by
  simp [sent_of_answerable ok h, OutFrame.isImage]

theorem abandon_plan (epoch : BitVec 32) (s : State) : ∃ table load held count, planOf (abandon epoch s)
    = planOf { s with table := table, load := load, held := held, entryCount := count, cycle := .quiet } := by
  obtain ⟨a, b, c, d, frame⟩ := mapLives_frame (fun _ l => abandonedLife l) s
  refine ⟨a, b, c, d, ?_⟩
  unfold abandon
  extract_lets freed s1 s2
  have moved : s1 = { s with table := a, load := b, held := c, entryCount := d } := frame
  clear_value s1
  subst moved
  have told : planOf s2 = _ := issueAll_planOf _ _ _
  clear_value s2
  split <;> exact told

theorem abandon_life (epoch : BitVec 32) (s : State) (e : EntryIx) :
    (abandon epoch s).life e = (abandonedLife (s.life e)).getD (s.life e) := by
  unfold abandon
  extract_lets freed s1 s2
  have moved : s1.life e = (abandonedLife (s.life e)).getD (s.life e) := mapLives_life _ s e
  clear_value s1
  have told : s2.life e = s1.life e := planOf_life (issueAll_planOf _ _ _) e
  clear_value s2
  split <;> exact told.trans moved

/-- The batch on the link is given up and its cycle is QUIET again (R114). -/
theorem abandon_cycleKept {s u : State} (epoch : BitVec 32) (before : s.cycle ≠ .initial) (armed : u.cycle = .armed)
    (part : CyclePart u) (link : LinkIdle u) : CycleKept s (abandon epoch u) := by
  obtain ⟨a, b, c, d, plan⟩ := abandon_plan epoch u
  have ended := cycleOk_of_quiet (s := { u with table := a, load := b, held := c, entryCount := d, cycle := .quiet }) rfl
    (fun e => by
      rw [← planOf_life plan e, abandon_life]
      exact abandonedLife_fits (armed ▸ part.lives e))
    (by simpa [armed] using part.prepare) (by simpa [armed] using part.settle) (part.changed (by simp [armed]))
    (part.expected.mpr (by simp [armed])) (part.called (by simp [armed]))
    ⟨⟨link.short, link.frames, link.waiting, link.running⟩, link.inFlight, link.link, link.ackWait⟩
  exact cycleKept_of_quiet before (planOf_cycle plan) (cycleKept_of_plan plan ended).ok

/-- A batch image fails with no other frame, or CANCEL, in the transmit order (R126, R127). -/
theorem batchFailed_cycleKept {s : State} {f : Flight} (ok : CycleOk s) (flying : s.inFlight = some f) (batch : f.image.kind = .batch)
    {frames : List OutFrame} (short : frames.length ≤ 1) (other : ∀ g ∈ frames, OutFrame.isImage g = false) :
    CycleKept s (imageFailed f { s with transmit := frames }) := by
  have armed : s.cycle = .armed := ok.armed.mpr ⟨f, flying, batch⟩
  have part := cyclePart_of_ok ok
  have free := linkFree_of_flight ok flying short other
  have failed : imageFailed f { s with transmit := frames } = abandon f.image.epoch (giveUp { s with transmit := frames }) := by
    simp [imageFailed, batch]
  rw [failed]
  exact abandon_cycleKept _ (by rw [armed]; nofun) armed
    ⟨part.lives, part.prepare, part.settle, part.changed, part.expected, part.called, part.subset⟩
    ⟨⟨free.short, free.frames, free.waiting, free.running⟩, rfl, rfl, rfl⟩

/-- The start-up image is sent again behind its CANCEL (R129). -/
theorem startUpFailed_cycleKept {s : State} {f : Flight} (ok : CycleOk s) (h : Answerable s f) (startUp : f.image.kind = .startUp) :
    CycleKept s (imageFailed f (handCancel f s)) := by
  have initial : s.cycle = .initial := ok.startUp f h.2 startUp
  have part := cyclePart_of_ok ok
  have free : LinkFree { s with transmit := s.transmit ++ [.cancel f.image.epoch f.send] } :=
    linkFree_of_flight ok h.2 (cancel_alone ok h).1 (cancel_alone ok h).2
  have failed : imageFailed f (handCancel f s) = handImage f.image (handCancel f s) := by simp [imageFailed, startUp]
  rw [failed]
  refine ⟨handImage_cycleOk ⟨part.lives, part.prepare, part.settle, part.changed, part.expected, part.called, part.subset⟩ free ?_,
    fun _ => imageOk_of_cycle ?_, id, Iff.rfl⟩
  · rw [startUp]
    exact initial.symm
  · change s.cycle ≠ .armed
    rw [initial]
    nofun

theorem cancelled_cycleKept {s : State} {f : Flight} (ok : CycleOk s) (h : Answerable s f) :
    CycleKept s (imageFailed f (handCancel f s)) := by
  cases hk : f.image.kind with
  | batch => exact batchFailed_cycleKept ok h.2 hk (cancel_alone ok h).1 (cancel_alone ok h).2
  | startUp => exact startUpFailed_cycleKept ok h hk

/-- The image at the head of the transmit order is the one in flight, and alone there. -/
theorem sending_of_head {s : State} {f : Flight} {rest : List OutFrame} (ok : CycleOk s) (head : s.transmit = .image f :: rest) :
    s.link = .sending ∧ s.inFlight = some f ∧ rest = [] := by
  cases hl : s.link with
  | idle => simpa [head, OutFrame.isImage] using (ok.unsent hl).2
  | waitAck => simpa [head] using ok.sent (.inl hl)
  | acked => simpa [head] using ok.sent (.inr hl)
  | sending =>
    obtain ⟨g, pre, flying, order, _, others⟩ := ok.sending hl
    rw [head] at order
    cases pre with
    | nil =>
      cases order
      exact ⟨rfl, flying, rfl⟩
    | cons x pre =>
      cases order
      simp [OutFrame.isImage] at others

theorem endImageSend_cycleKept {s : State} (ok : CycleOk s) : CycleKept s (endImageSend s) := by
  unfold endImageSend
  split
  · next f rest head =>
    obtain ⟨_, flying, rfl⟩ := sending_of_head ok head
    refine ⟨{ ok with
        flight := by simp [flying], wait := rfl, sending := nofun, sent := fun _ => rfl, unsent := nofun }, id, id, Iff.rfl⟩
  · exact .refl ok

theorem acknowledged_cycleKept {s : State} (ok : CycleOk s) (wait : s.link = .waitAck) :
    CycleKept s { s with link := .acked, ackWait := none } where
  ok := { ok with
    flight := by simp [ok.flight, wait], wait := rfl, sending := nofun, sent := fun _ => ok.sent (.inl wait), unsent := nofun }
  image := id
  quiet := id
  initial := Iff.rfl

/-- A frame that is no image leaves the head of the transmit order (R123). -/
theorem frameSent_cycleOk {s : State} {g : OutFrame} {rest : List OutFrame} (ok : CycleOk s) (head : s.transmit = g :: rest)
    (other : OutFrame.isImage g = false) (bytes : List Byte) : CycleOk { s with transmit := rest, pltx := bytes } :=
  { ok with
    sending := fun h => by
      obtain ⟨f, pre, flying, order, short, others⟩ := ok.sending h
      rw [head] at order
      cases pre with
      | nil =>
        cases order
        cases other
      | cons x pre =>
        cases order
        exact ⟨f, pre, flying, rfl, Nat.le_of_lt short, fun g hg => others g (List.mem_cons_of_mem _ hg)⟩
    sent := fun h => by simpa [head] using ok.sent h
    unsent := fun h => by
      obtain ⟨short, others⟩ := ok.unsent h
      rw [head] at short others
      exact ⟨Nat.le_of_lt short, fun g hg => others g (List.mem_cons_of_mem _ hg)⟩ }

theorem handWaiting_cycleKept {s : State} (ok : CycleOk s) : CycleKept s (handWaiting s) := by
  unfold handWaiting
  split
  · next image empty waiting =>
    obtain ⟨startUp, initial, _, running⟩ := ok.waiting image waiting
    have part := cyclePart_of_ok ok
    refine ⟨handImage_cycleOk ⟨part.lives, part.prepare, part.settle, part.changed, part.expected, part.called, part.subset⟩
      ⟨by simp [empty], by simp [empty], rfl, fun stopped => ?_⟩ ?_, fun _ => imageOk_of_cycle ?_, id, Iff.rfl⟩
    · have stopped : s.profile? = none := stopped
      simp [stopped] at running
    · rw [startUp]
      exact initial.symm
    · change s.cycle ≠ .armed
      rw [initial]
      nofun
  · exact .refl ok

theorem endFrameSend_cycleKept {s : State} (ok : CycleOk s) : CycleKept s (endFrameSend s) := by
  have sent {g : OutFrame} {rest : List OutFrame} (bytes : List Byte) (head : s.transmit = g :: rest)
      (other : OutFrame.isImage g = false) : CycleKept s (handWaiting { s with transmit := rest, pltx := bytes }) := by
    have left := frameSent_cycleOk ok head other bytes
    exact (CycleKept.mk (s := s) left id id Iff.rfl).trans (handWaiting_cycleKept left)
  unfold endFrameSend
  split
  · next head => exact sent _ head rfl
  · next head => exact sent _ head rfl
  · exact .refl ok

/-! ### The happenings -/

theorem Happens.cycleKept {s u : State} (h : Happens s u) (ok : CycleOk s) : CycleKept s u := by
  cases h with
  | beside ts plan =>
    have besides := cycleKept_of_plan plan ok
    exact besides.trans (purgeAll_cycleKept ts besides.ok)
  | @moved e l h =>
    refine cycleKept_of_lives (tableOnly_setLife e l s) (fun x fits => ?_) (fun _ x => ?_) ok
    all_goals
      rw [setLife_life_eq]
      split
    · next same => exact h.fits (same ▸ fits)
    · exact fits
    · next same => exact same ▸ h.onAirNext
    · rfl
  | @staged p e a r w q running pending =>
    refine cycleKept_of_lives ⟨_, _, _, _, rfl⟩ (fun x fits => ?_) (fun _ x => ?_) ok
    all_goals
      rw [stage_life]
      split
    · rfl
    · exact fits
    · next same => rw [same, pending]; rfl
    · rfl
  | counted p holdoff => exact countFrame_cycleKept p holdoff ok
  | @answered u t preparing plan =>
    exact cycleKept_proceed preparing (expecting_of_plan plan (leaveExpected_expecting t (expecting_of_ok ok preparing)))
  | @refused u late ts preparing _ plan =>
    have proceeded := cycleKept_proceed preparing
      (expecting_of_plan plan (foldl_withdrawPart_expecting late (expecting_of_ok ok preparing)))
    exact proceeded.trans (purgeAll_cycleKept ts proceeded.ok)
  | released preparing => exact releaseFromBatch_cycleKept preparing ok
  | settled settling => exact endSettle_cycleKept settling ok
  | @failed f answerable batch =>
    have sent := sent_of_answerable ok answerable
    exact batchFailed_cycleKept ok answerable.2 batch (frames := s.transmit) (by simp [sent]) (by simp [sent])
  | cancelled answerable => exact cancelled_cycleKept ok answerable
  | imageSent => exact endImageSend_cycleKept ok
  | frameSent => exact endFrameSend_cycleKept ok
  | acknowledged wait => exact acknowledged_cycleKept ok wait

theorem runs_cycleKept {s u : State} (h : Runs s u) (ok : CycleOk s) : CycleKept s u := by
  induction h with
  | refl => exact .refl ok
  | tail _ one ih => exact ih.trans (one.cycleKept ih.ok)

end Sys2Proof.Proofs
end

section
/-! PROOFS. The freeze and the commit, and with them what every step keeps of the cycle. -/

namespace Sys2Proof.Proofs

open Machine Safety Laws

/-! ### The commit, its notices apart -/

/-- Notices do not look at the cycle. -/
theorem issueAll_settling (ts : List Tenant) (body : NoticeBody) (cycle : CycleState) (left : Option Nat) (s : State) :
    issueAll ts body { s with cycle := cycle, settleLeft := left }
      = { issueAll ts body s with cycle := cycle, settleLeft := left } := by
  unfold issueAll
  induction ts generalizing s with
  | nil => rfl
  | cons t ts ih =>
    rw [List.foldl_cons, List.foldl_cons]
    exact ih (issue t body s)

/-- What a commit makes of the state but for its notices and its sweep request (R115, R116). -/
def switched (p : Profile) (f : Flight) (s : State) : State :=
  { mapLives (fun _ l => committedLife p.settleFrames l) (handApply f s) with
    changed := if 0 < p.settleFrames then s.batchSpans else []
    cycle := if 0 < p.settleFrames then .settling else .quiet
    settleLeft := if 0 < p.settleFrames then some p.settleFrames else s.settleLeft }

/-- COMMITTED has gone to every ACTIVE or PAUSED port. -/
def committedTold (p : Profile) (f : Flight) (s : State) : State :=
  issueAll s.takingPart (.committed s.batch f.image.epoch) (switched p f s)

theorem commit_eq (p : Profile) (f : Flight) (s : State) : commit p f s
    = if s.table.toList.any fun e => e.life.isDropping then requestSweep (committedTold p f s) else committedTold p f s := by
  obtain ⟨_, _, _, _, frame⟩ := mapLives_frame (fun _ l => committedLife p.settleFrames l) (handApply f s)
  unfold commit
  extract_lets changed dropped s1 s2 s3
  have taking : s1.takingPart = s.takingPart := (congrArg State.takingPart frame :)
  have batch : s1.batch = s.batch := (congrArg State.batch frame :)
  have epoch : s1.epoch = f.image.epoch := (congrArg State.epoch frame :)
  have settle : s1.settleLeft = s.settleLeft := (congrArg State.settleLeft frame :)
  have switched_eq : switched p f s = { s1 with
      changed := changed
      cycle := if 0 < p.settleFrames then .settling else .quiet
      settleLeft := if 0 < p.settleFrames then some p.settleFrames else s.settleLeft } := rfl
  have told : committedTold p f s = { s2 with
      cycle := if 0 < p.settleFrames then .settling else .quiet
      settleLeft := if 0 < p.settleFrames then some p.settleFrames else s.settleLeft } := by
    unfold s2
    rw [committedTold, switched_eq, ← taking, ← batch, ← epoch]
    clear_value s1
    exact issueAll_settling _ _ _ _ { s1 with changed := changed }
  have left : s2.settleLeft = s.settleLeft := by
    rw [← settle]
    clear_value s1
    exact (congrArg State.settleLeft (issueAll_planOf _ _ { s1 with changed := changed }) :)
  rw [told]
  change _ = if dropped then _ else _
  unfold s3
  clear_value s2 dropped
  split <;> cases dropped <;> simp [requestSweep, left]

/-- What a commit leaves as it was, and what it makes of the rest but for the table. -/
theorem switched_frame (p : Profile) (f : Flight) (s : State) : ∃ table load held count, switched p f s = { s with
    table := table, load := load, held := held, entryCount := count
    transmit := s.transmit ++ [.apply f.image.epoch f.send], inFlight := none, link := .idle, ackWait := none
    epoch := f.image.epoch
    changed := if 0 < p.settleFrames then s.batchSpans else []
    cycle := if 0 < p.settleFrames then .settling else .quiet
    settleLeft := if 0 < p.settleFrames then some p.settleFrames else s.settleLeft } := by
  obtain ⟨a, b, c, d, frame⟩ := mapLives_frame (fun _ l => committedLife p.settleFrames l) (handApply f s)
  refine ⟨a, b, c, d, ?_⟩
  rw [switched, frame]
  rfl

theorem switched_entry (p : Profile) (f : Flight) (s : State) (e : EntryIx) : (switched p f s).entry e
    = { s.entry e with life := (committedLife p.settleFrames (s.life e)).getD (s.life e) } := by
  have moved := mapLives_entry (fun _ l => committedLife p.settleFrames l) (handApply f s) e
  unfold switched
  generalize mapLives (fun _ l => committedLife p.settleFrames l) (handApply f s) = v at moved
  exact moved

theorem switched_life (p : Profile) (f : Flight) (s : State) (e : EntryIx) :
    (switched p f s).life e = (committedLife p.settleFrames (s.life e)).getD (s.life e) :=
  congrArg Entry.life (switched_entry p f s e)

theorem commit_planOf (p : Profile) (f : Flight) (s : State) : planOf (commit p f s) = planOf (switched p f s) := by
  have told : planOf (committedTold p f s) = planOf (switched p f s) := issueAll_planOf _ _ _
  rw [commit_eq]
  split
  · exact told
  · exact told

/-- The commit ends in SETTLING or QUIET with the link IDLE (R115, R116, R128). -/
theorem commit_cycleOk (p : Profile) {f : Flight} {s : State} (ok : CycleOk s) (armed : s.cycle = .armed) (acked : s.link = .acked)
    (flying : s.inFlight = some f) : CycleOk (commit p f s) ∧ ImageOk (commit p f s) := by
  obtain ⟨_, _, _, _, frame⟩ := switched_frame p f s
  have cycle : (switched p f s).cycle = if 0 < p.settleFrames then .settling else .quiet := (congrArg State.cycle frame :)
  have batch : (switched p f s).batch = s.batch := (congrArg State.batch frame :)
  have left : (switched p f s).settleLeft = if 0 < p.settleFrames then some p.settleFrames else s.settleLeft :=
    (congrArg State.settleLeft frame :)
  have changed : (switched p f s).changed = if 0 < p.settleFrames then s.batchSpans else [] := (congrArg State.changed frame :)
  have prepare : s.prepareLeft = none := by simpa [armed] using ok.prepare
  have settle : s.settleLeft = none := by simpa [armed] using ok.settle
  have free := linkFree_of_flight ok flying (frames := s.transmit ++ [.apply f.image.epoch f.send])
    (by simp [ok.sent (.inr acked)]) (by simp [ok.sent (.inr acked), OutFrame.isImage])
  have link : LinkIdle (switched p f s) := by
    rw [frame]
    exact ⟨⟨free.short, free.frames, free.waiting, free.running⟩, rfl, rfl, rfl⟩
  have calm : (switched p f s).cycle = .quiet ∨ (switched p f s).cycle = .settling := by
    rw [cycle]
    split <;> simp
  have lives (e : EntryIx) : lifeFits (switched p f s).cycle (switched p f s).batch ((switched p f s).life e) = true := by
    rw [cycle, batch, switched_life]
    exact committedLife_fits (armed ▸ ok.lives e)
  have ended : CycleOk (switched p f s) := cycleOk_of_calm calm lives ((congrArg State.prepareLeft frame :).trans prepare)
    (by rw [left, cycle]; split <;> simp [settle]) (by rw [cycle, changed]; split <;> simp)
    ((congrArg State.expected frame :).trans (ok.expected.mpr (by simp [armed])))
    ((congrArg State.called frame :).trans (ok.called (by simp [armed]))) link
  have plan := commit_planOf p f s
  refine ⟨(cycleKept_of_plan plan ended).ok, imageOk_of_cycle ?_⟩
  rw [planOf_cycle plan]
  rcases calm with h | h <;> (rw [h]; nofun)

/-- The start-up image is applied, and the cycle is QUIET (R94, R128). -/
theorem applyStartUp_cycleOk {f : Flight} {s : State} (ok : CycleOk s) (initial : s.cycle = .initial) (acked : s.link = .acked)
    (flying : s.inFlight = some f) : CycleOk (applyStartUp f s) := by
  have free := linkFree_of_flight ok flying (frames := s.transmit ++ [.apply f.image.epoch f.send])
    (by simp [ok.sent (.inr acked)]) (by simp [ok.sent (.inr acked), OutFrame.isImage])
  have prepare : s.prepareLeft = none := by simpa [initial] using ok.prepare
  have settle : s.settleLeft = none := by simpa [initial] using ok.settle
  exact cycleOk_of_quiet (s := applyStartUp f s) rfl (fun e => lifeFits_of_initial (initial ▸ ok.lives e)) prepare settle
    (ok.changed (by simp [initial]))
    (ok.expected.mpr (by simp [initial])) (ok.called (by simp [initial]))
    ⟨⟨free.short, free.frames, free.waiting, free.running⟩, rfl, rfl, rfl⟩

/-! ### The freeze -/

theorem linkIdle_planOf (s : State) : LinkIdle (planOf s) ↔ LinkIdle s where
  mp h := ⟨⟨h.short, h.frames, h.waiting, h.running⟩, h.inFlight, h.link, h.ackWait⟩
  mpr h := ⟨⟨h.short, h.frames, h.waiting, h.running⟩, h.inFlight, h.link, h.ackWait⟩

theorem linkIdle_of_plan {s u : State} (plan : planOf u = planOf s) (h : LinkIdle s) : LinkIdle u :=
  (linkIdle_planOf u).mp (plan ▸ (linkIdle_planOf s).mpr h)

/-- The freeze forms a batch that is ARMED at once when nobody is to answer for it (R100, R101). -/
theorem freeze_cycleOk (p : Profile) {s : State} (ok : CycleOk s) (quiet : s.cycle = .quiet) :
    CycleOk (freeze p s) ∧ ImageOk (freeze p s) := by
  have link := linkIdle_of_ok ok (by rw [quiet]; nofun) (by rw [quiet]; nofun)
  have settle : s.settleLeft = none := by simpa [quiet] using ok.settle
  have changed : s.changed = [] := ok.changed (by simp [quiet])
  unfold freeze
  split
  · extract_lets s1 called s2 s3
    obtain ⟨a, b, c, d, frame⟩ :=
      mapLives_frame (fun _ l => frozenLife (s.batch + 1) l) { s with trigger := false, batch := s.batch + 1 }
    have frozen : s1 = { s with trigger := false, batch := s.batch + 1, table := a, load := b, held := c, entryCount := d } := frame
    have lives (e : EntryIx) : s1.life e = (frozenLife (s.batch + 1) (s.life e)).getD (s.life e) := mapLives_life _ _ e
    have told : planOf s3 = planOf s2 :=
      foldl_planOf (fun v t => issue t (.prepare v.batch (v.prepareItems t)) v) (fun _ _ => rfl) called s2
    clear_value s3 called s1
    subst frozen
    have fits (cycle : CycleState) (h : cycle = .preparing ∨ cycle = .armed) (e : EntryIx) :
        lifeFits cycle (s.batch + 1) (s3.life e) = true := by
      rw [planOf_life told, show s2.life e = _ from lives e]
      exact frozenLife_fits h (quiet ▸ ok.lives e)
    have link3 : LinkIdle s3 := linkIdle_of_plan told
      ⟨⟨link.short, link.frames, link.waiting, link.running⟩, link.inFlight, link.link, link.ackWait⟩
    have batch : s3.batch = s.batch + 1 := (congrArg State.batch told :)
    have settle3 : s3.settleLeft = none := (congrArg State.settleLeft told :).trans settle
    have changed3 : s3.changed = [] := (congrArg State.changed told :).trans changed
    have expected : s3.expected = called := (congrArg State.expected told :)
    have called3 : s3.called = called := (congrArg State.called told :)
    split
    · next nobody =>
      exact becomeArmed_cycleOk (batch ▸ fits .armed (.inr rfl)) settle3 changed3 (expected.trans nobody) link3.toLinkFree
    · next somebody =>
      refine ⟨cycleOk_of_linkIdle ?_ ⟨⟨link3.short, link3.frames, link3.waiting, link3.running⟩, link3.inFlight, link3.link,
        link3.ackWait⟩ nofun nofun, imageOk_of_cycle nofun⟩
      exact { lives := batch ▸ fits .preparing (.inl rfl), prepare := rfl, settle := by simp [settle3], changed := fun _ => changed3
              expected := by simp [expected, somebody], called := nofun, subset := by simp [expected, called3] }
  · have kept : CycleKept s { s with trigger := false } := cycleKept_of_plan (s := s) rfl ok
    exact ⟨kept.ok, imageOk_of_cycle (by change s.cycle ≠ .armed; rw [quiet]; nofun)⟩

/-! ### What every step keeps -/

/-- A reload leaves at most a frame on its way and a CANCEL to be sent (R130). -/
theorem reloadTransmit_short {s : State} (ok : CycleOk s) :
    (reloadTransmit s).length ≤ 2 ∧ ∀ g ∈ reloadTransmit s, OutFrame.isImage g = false := by
  have cancels : (s.inFlight.map fun f => OutFrame.cancel f.image.epoch f.send).toList.length ≤ 1 := by
    cases s.inFlight <;> simp
  rw [reloadTransmit_eq]
  refine ⟨?_, fun g hg => ?_⟩
  · rw [List.length_append]
    cases hl : s.link with
    | idle =>
      obtain ⟨short, _⟩ := ok.unsent hl
      have two : s.transmit.length ≤ 2 := short.trans (by split <;> omega)
      rw [ok.flight.mpr hl]
      exact (List.length_filter_le _ _).trans two
    | waitAck =>
      rw [ok.sent (.inl hl)]
      simp only [List.filter_nil, List.length_nil]
      omega
    | acked =>
      rw [ok.sent (.inr hl)]
      simp only [List.filter_nil, List.length_nil]
      omega
    | sending =>
      obtain ⟨f, pre, _, order, short, _⟩ := ok.sending hl
      have cut : (s.transmit.filter fun g => !OutFrame.isImage g).length ≤ 1 := by
        rw [order, List.filter_append, List.length_append]
        exact (List.length_filter_le _ _).trans short
      omega
  · rcases List.mem_append.mp hg with hg | hg
    · simpa using (List.mem_filter.mp hg).2
    · obtain ⟨f, _, rfl⟩ := Option.map_eq_some_iff.mp (Option.mem_toList.mp hg)
      rfl

theorem beginReload_cycleOk {s : State} (ok : CycleOk s) : CycleOk (beginReload s) := by
  obtain ⟨short, others⟩ := reloadTransmit_short ok
  exact
    { lives := fun e => by rw [beginReload_life]; rfl
      prepare := rfl, settle := rfl, changed := fun _ => rfl, expected := ⟨fun _ => nofun, fun _ => rfl⟩, called := fun _ => rfl
      subset := nofun, armed := ⟨nofun, nofun⟩, startUp := nofun, flight := ⟨fun _ => rfl, fun _ => rfl⟩, wait := rfl
      sending := nofun, sent := nofun, unsent := fun _ => ⟨short, others⟩, waiting := nofun, noProfile := fun _ => ⟨rfl, rfl⟩ }

theorem loadSuccess_cycleOk (kind : LoadKind) (p : Profile) {s : State} (stopped : s.profile? = none) (ok : CycleOk s) :
    CycleOk (loadSuccess kind p s) ∧ (loadSuccess kind p s).cycle ≠ .armed := by
  obtain ⟨initial, none⟩ := ok.noProfile stopped
  have started : CycleOk { s with
      device := .running p, staged := []
      internalCountdown := if p.frameSource = .internal then some p.framePeriod else Option.none
      cadence := p.cadenceFrames, startUpWaiting := some (startUpImage kind s) } :=
    { ok with
      waiting := fun i hi => by
        cases hi
        exact ⟨rfl, initial, none, rfl⟩
      noProfile := nofun }
  have handed := handWaiting_cycleKept started
  exact ⟨handed.ok, fun armed => absurd ((handed.initial.mpr initial).symm.trans armed) nofun⟩

theorem stopped_cycleOk {s : State} {d : Device} (stopped : s.profile? = none) (ok : CycleOk s) :
    CycleOk { s with device := d } :=
  { ok with
    waiting := fun i hi => by simpa [stopped] using (ok.waiting i hi).2.2.2
    noProfile := fun _ => ok.noProfile stopped }

/-- A PLACE's entry is no part of a batch. -/
theorem placeEnds_cycleKept {p : Profile} {t : Tenant} {f : PlaceFields} {s u : State} (ends : PlaceEnds p t f s u) (ok : CycleOk s) :
    CycleKept s u := by
  have given {e : EntryIx} {l : Life} (free : s.life e = .free) (fits : ∀ cycle batch, lifeFits cycle batch l = true)
      (air : onAirNext? l = none) {u : State} (frame : TableOnly s u) (lives : ∀ x, u.life x = if x = e then l else s.life x) :
      CycleKept s u := by
    refine cycleKept_of_lives frame (fun x old => ?_) (fun _ x => ?_) ok
    all_goals
      rw [lives]
      split
    · exact fits _ _
    · exact old
    · next same => rw [air, same, free]; rfl
    · rfl
  obtain _ | free | @⟨e, _, a, b, _, free, _⟩ | @⟨e, q, a, r, _, free⟩ := ends
  · exact .refl ok
  · refine given free (l := .free) (fun _ _ => rfl) rfl ⟨_, _, _, _, rfl⟩ fun x => ?_
    rw [bumpGeneration_life]
    split
    · next same => rw [same, free]
    · rfl
  · refine given free (l := .staged a b) (fun _ _ => rfl) rfl ⟨_, _, _, _, rfl⟩ fun x => ?_
    rw [stage_life, bumpGeneration_life]
  · refine given free (l := .pending a r q.waitLimit) (fun _ _ => rfl) rfl ⟨_, _, _, _, rfl⟩ fun x => ?_
    have joined : (joinList p.rankMode e a (bumpGeneration e s)).life x = (bumpGeneration e s).life x := rfl
    rw [setLife_life_eq, joined, bumpGeneration_life]

/-- The freeze or commit test of a frame event that began in agreement (R93, R99, R113, R128). -/
theorem cycleTest_cycleOk (p : Profile) (holdoff : Bool) {s u : State} (kept : CycleKept s u) :
    CycleOk (cycleTest p s.cycle holdoff u) ∧ (ImageOk u → ImageOk (cycleTest p s.cycle holdoff u)) := by
  have stays : CycleOk u ∧ (ImageOk u → ImageOk u) := ⟨kept.ok, id⟩
  unfold cycleTest
  split
  · exact stays
  split
  · next quiet =>
    split
    · exact (freeze_cycleOk p kept.ok (kept.quiet quiet)).imp_right fun h _ => h
    · exact stays
  · next armed =>
    split
    · next f acked flying =>
      have batch : f.image.kind = .batch := by
        cases hk : f.image.kind with
        | batch => rfl
        | startUp => exact absurd ((kept.initial.mp (kept.ok.startUp f flying hk)).symm.trans armed) nofun
      exact (commit_cycleOk p kept.ok (kept.ok.armed.mpr ⟨f, flying, batch⟩) acked flying).imp_right fun h _ => h
    · exact stays
  · next initial =>
    split
    · next f acked flying =>
      exact ⟨applyStartUp_cycleOk kept.ok (kept.initial.mpr initial) acked flying, fun _ => imageOk_of_cycle nofun⟩
    · exact stays
  · exact stays
  · exact stays

/-- The agreement is kept by itself, and the image's with it. -/
theorem cycle_kept (withImage : Prop) : KeptByAll fun s => CycleOk s ∧ (withImage → ImageOk s) where
  happens h ok := ⟨(h.cycleKept ok.1).ok, (h.cycleKept ok.1).image ∘ ok.2⟩
  reset := ⟨cycleOk_reset, fun _ => imageOk_of_cycle nofun⟩
  stopped stopped _ ok := ⟨stopped_cycleOk stopped ok.1, ok.2⟩
  reloaded ok := ⟨beginReload_cycleOk ok.1, fun _ => imageOk_of_cycle nofun⟩
  started kind stopped _ ok :=
    ⟨(loadSuccess_cycleOk kind _ stopped ok.1).1, fun _ => imageOk_of_cycle (loadSuccess_cycleOk kind _ stopped ok.1).2⟩
  placed _ _ ends ok := ⟨(placeEnds_cycleKept ends ok.1).ok, (placeEnds_cycleKept ends ok.1).image ∘ ok.2⟩
  tested holdoff _ runs began ok :=
    have tested := cycleTest_cycleOk _ holdoff (runs_cycleKept runs began.1)
    ⟨tested.1, tested.2 ∘ ok.2⟩

/-- Settles O53: every happening and every test keeps the agreement, and the image with it. -/
theorem stepKeepsCycle : Obligations.StepKeepsCycle :=
  ⟨fun s t ok h => ((cycle_kept False).step s t ⟨ok, False.elim⟩ h).1,
    fun s t ok image h => ((cycle_kept True).step s t ⟨ok, fun _ => image⟩ h).2 trivial⟩

end Sys2Proof.Proofs
end

section
/-! PROOFS. The commit as a frame event takes it (R113, R115, R116, R128). -/

namespace Sys2Proof.Proofs

open Machine Safety Laws

theorem cycleTest_acked {s : State} {f : Flight} (acked : s.link = .acked) (flying : s.inFlight = some f) (p : Profile) :
    cycleTest p .armed false s = commit p f s ∧ cycleTest p .initial false s = applyStartUp f s := by
  simp [cycleTest, acked, flying]

theorem cycleTest_unacked {s : State} (h : s.link ≠ .acked) (p : Profile) :
    cycleTest p .armed false s = s ∧ cycleTest p .initial false s = s := by
  cases hl : s.link with
  | acked => exact absurd hl h
  | _ => simp [cycleTest, hl]

/-- A commit by the life it finds (R115). -/
theorem committedLife_getD (settleFrames : Nat) (l : Life) : (committedLife settleFrames l).getD l = match l with
    | .adding a q _ true forced => .retiring a q forced
    | .adding a q _ false _ => .live a q a.hold
    | .dropping a q _ forced => if 0 < settleFrames then .cooling a q forced else .free
    | l => l := by
  cases l with
  | adding a q b mark forced => cases mark <;> rfl
  | _ => rfl

/-- A commit puts on air what the batch image lists (R111, R115). -/
theorem committedLife_onAir (settleFrames : Nat) (l : Life) :
    ((committedLife settleFrames l).getD l).onAir? = onAirNext? l := by
  rw [committedLife_getD]
  cases l with
  | adding a q b mark forced => cases mark <;> rfl
  | dropping a q b forced => dsimp only; split <;> rfl
  | _ => rfl

theorem mem_batchSpans {s : State} {x : Span} :
    x ∈ s.batchSpans ↔ ∃ e a q, (s.life e).inBatch? = some (a, q) ∧ x = ⟨q.first, a.width⟩ := by
  unfold State.batchSpans
  rw [table_toList, List.filterMap_map, List.mem_filterMap]
  constructor
  · rintro ⟨e, _, h⟩
    obtain ⟨⟨a, q⟩, batch, rfl⟩ := Option.map_eq_some_iff.mp h
    exact ⟨e, a, q, batch, rfl⟩
  · rintro ⟨e, a, q, batch, rfl⟩
    exact ⟨e, List.mem_finRange e, Option.map_eq_some_iff.mpr ⟨(a, q), batch, rfl⟩⟩

theorem switched_isChanged (p : Profile) (f : Flight) (s : State) (g : Nat) : (switched p f s).isChanged g = true
    ↔ 0 < p.settleFrames ∧ ∃ e a q, (s.life e).inBatch? = some (a, q) ∧ q.first ≤ g ∧ g < q.first + a.width := by
  obtain ⟨_, _, _, _, frame⟩ := switched_frame p f s
  have changed : (switched p f s).changed = if 0 < p.settleFrames then s.batchSpans else [] := (congrArg State.changed frame :)
  rw [State.isChanged, changed]
  split
  · next window =>
    simp only [window, true_and, List.any_eq_true, mem_batchSpans, covers, Bool.and_eq_true, decide_eq_true_eq]
    constructor
    · rintro ⟨_, ⟨e, a, q, batch, rfl⟩, inside⟩
      exact ⟨e, a, q, batch, inside⟩
    · rintro ⟨e, a, q, batch, inside⟩
      exact ⟨_, ⟨e, a, q, batch, rfl⟩, inside⟩
  · next window => simp [window]

theorem isDropping_iff (l : Life) : l.isDropping = true ↔ ∃ a q b forced, l = .dropping a q b forced := by
  cases l <;> simp [Life.isDropping]

theorem any_dropping_iff (s : State) :
    (s.table.toList.any fun e => e.life.isDropping) = true ↔ ∃ e a q b forced, s.life e = .dropping a q b forced := by
  simp only [table_toList, List.any_map, List.any_eq_true, Function.comp_apply, isDropping_iff]
  exact ⟨fun ⟨e, _, h⟩ => ⟨e, h⟩, fun ⟨e, h⟩ => ⟨e, List.mem_finRange e, h⟩⟩

theorem commit_airSpans (p : Profile) (f : Flight) (s : State) :
    airSpans (commit p f s) = allEntries.filterMap fun e => (onAirNext? (s.life e)).map describe := by
  unfold airSpans
  refine List.filterMap_congr fun e _ => ?_
  rw [planOf_life (commit_planOf p f s), switched_life, committedLife_onAir]

/-- Settles O39, from the commit with its notices apart (`commit_eq`). -/
theorem commitTaken : Obligations.CommitTaken := by
  refine ⟨fun s p f acked flying => ?_, fun s p unacked => cycleTest_unacked unacked p⟩
  obtain ⟨armedTest, initialTest⟩ := cycleTest_acked acked flying p
  rw [armedTest, initialTest]
  refine ⟨switched p f s, ?_, ?_, fun e => ⟨?_, ?_⟩, switched_isChanged p f s, ⟨?_, ?_⟩, ?_, rfl⟩
  · obtain ⟨_, _, _, _, frame⟩ := switched_frame p f s
    generalize switched p f s = u at frame
    subst frame
    rfl
  · intro sums
    unfold switched
    have moved := mapLives_sumsMatch (fun _ l => committedLife p.settleFrames l)
      (sumsMatch_of_same (s := s) (u := handApply f s) rfl rfl rfl rfl sums)
    generalize mapLives (fun _ l => committedLife p.settleFrames l) (handApply f s) = v at moved
    exact sumsMatch_of_same (s := v) rfl rfl rfl rfl moved
  · rw [switched_entry]
  · exact (switched_life p f s e).trans (committedLife_getD p.settleFrames (s.life e))
  · intro dropped
    rw [commit_eq, if_pos ((any_dropping_iff s).mpr dropped)]
    rfl
  · intro none
    have none : ¬ ((s.table.toList.any fun e => e.life.isDropping) = true) := fun dropped => by
      obtain ⟨e, a, q, b, forced, h⟩ := (any_dropping_iff s).mp dropped
      exact none e a q b forced h
    rw [commit_eq, if_neg none]
    rfl
  · intro image armed
    obtain ⟨g, flies, _, _, _, _, perm⟩ := image armed
    cases flying.symm.trans flies
    rw [commit_airSpans]
    exact perm

end Sys2Proof.Proofs
end

section
/-! PROOFS. Where a purge leaves the Pending List and its sweep (R42, R79, R84). -/

namespace Sys2Proof.Proofs

open Machine Safety Laws

/-! ### Several entries leave the list -/

/-- The entries of `es` leave the list, one after the other. -/
def leaveAll (es : List EntryIx) (s : State) : State := es.foldl (fun s e => leaveList e s) s

theorem leaveAll_cons (e : EntryIx) (es : List EntryIx) (s : State) : leaveAll (e :: es) s = leaveAll es (leaveList e s) := by
  rw [leaveAll, leaveAll, List.foldl_cons]

theorem erase_behind {pre : List EntryIx} {e : EntryIx} (h : e ∉ pre) (rest : List EntryIx) :
    (pre ++ e :: rest).erase e = pre ++ rest := by
  rw [List.erase_append_right _ h, List.erase_cons_head]

section
variable {own : EntryIx → Bool} {pre : List EntryIx}

theorem not_mem_of_own (others : ∀ x ∈ pre, own x = false) {e : EntryIx} (mine : own e = true) : e ∉ pre := fun mem => by
  rw [others e mem] at mine
  cases mine

theorem others_snoc (others : ∀ x ∈ pre, own x = false) {e : EntryIx} (other : own e = false) :
    ∀ x ∈ pre ++ [e], own x = false := by
  intro x hx
  rcases List.mem_append.mp hx with hx | hx
  · exact others x hx
  · exact List.mem_singleton.mp hx ▸ other

/-- The others stay, in their order (R79). -/
theorem leaveAll_waitList (others : ∀ x ∈ pre, own x = false) (l : List EntryIx) {s : State} (list : s.waitList = pre ++ l) :
    (leaveAll (l.filter own) s).waitList = pre ++ l.filter fun x => !own x := by
  induction l generalizing pre s with
  | nil => simpa [leaveAll] using list
  | cons e l ih =>
    cases mine : own e with
    | true =>
      have left : (leaveList e s).waitList = pre ++ l := by
        rw [← erase_behind (not_mem_of_own others mine) l, ← list]
        rfl
      rw [List.filter_cons_of_pos mine, leaveAll_cons, ih others left, List.filter_cons_of_neg (by simp [mine])]
    | false =>
      rw [List.filter_cons_of_neg (by simp [mine]), List.filter_cons_of_pos (by simp [mine]),
        ih (others_snoc others mine) (s := s) (by simpa using list)]
      simp

end

theorem leaveAll_idle (es : List EntryIx) {s : State} (h : s.sweep = .idle) : (leaveAll es s).sweep = .idle := by
  induction es generalizing s with
  | nil => exact h
  | cons e es ih =>
    rw [leaveAll_cons]
    exact ih (by simp [leaveList, h, Sweep.movedPast, Sweep.settled])

/-- A position on an entry that stays is left there. -/
theorem leaveAll_elsewhere {es : List EntryIx} {x : EntryIx} {again : Bool} (stays : x ∉ es) {s : State}
    (h : s.sweep = .running (.entry x) again) : (leaveAll es s).sweep = .running (.entry x) again := by
  induction es generalizing s with
  | nil => exact h
  | cons e es ih =>
    obtain ⟨ne, stays⟩ := not_or.mp (List.mem_cons.not.mp stays)
    rw [leaveAll_cons]
    exact ih stays (by simp [leaveList, h, Sweep.movedPast, Sweep.settled, ne])

/-- A position at END is left there while a step is in hand. -/
theorem leaveAll_atEnd (es : List EntryIx) {again : Bool} {s : State} (stepping : s.stepInHand = true)
    (h : s.sweep = .running .listEnd again) : (leaveAll es s).sweep = .running .listEnd again := by
  induction es generalizing s with
  | nil => exact h
  | cons e es ih =>
    rw [leaveAll_cons]
    exact ih stepping (by simp [leaveList, h, Sweep.movedPast, Sweep.settled, stepping])

/-- Where a sweep stands whose position moves to `next` while `list` waits: END is taken at once when no step is in hand. -/
def movedTo (stepInHand again : Bool) (list : List EntryIx) (next : Option EntryIx) : Sweep :=
  if stepInHand then .running (posOf next) again else sweepOn again list next

theorem leaveList_sweep {pre after : List EntryIx} {e : EntryIx} {again : Bool} {s : State} (first : e ∉ pre)
    (list : s.waitList = pre ++ e :: after) (position : s.sweep = .running (.entry e) again) :
    (leaveList e s).sweep = movedTo s.stepInHand again (pre ++ after) after.head? := by
  simp only [leaveList, position, list, erase_behind first, Sweep.movedPast, if_true, follower_append e pre after first, movedTo]
  cases after with
  | nil => cases s.stepInHand <;> cases again <;> cases pre <;> rfl
  | cons x after => cases s.stepInHand <;> rfl

section
variable {own : EntryIx → Bool} {pre : List EntryIx}

/-- A position on an entry that leaves moves to the first entry after it that stays. -/
theorem leaveAll_onwards (others : ∀ x ∈ pre, own x = false) {after : List EntryIx} {e : EntryIx} {again : Bool}
    (mine : own e = true) (nodup : (e :: after).Nodup) {s : State} (list : s.waitList = pre ++ e :: after)
    (position : s.sweep = .running (.entry e) again) :
    (leaveAll ((e :: after).filter own) s).sweep
      = movedTo s.stepInHand again (pre ++ after.filter fun x => !own x) (after.find? fun x => !own x) := by
  induction after generalizing e s with
  | nil =>
    rw [List.filter_cons_of_pos mine, leaveAll_cons]
    exact leaveList_sweep (not_mem_of_own others mine) list position
  | cons x after ih =>
    obtain ⟨_, nodup⟩ := List.nodup_cons.mp nodup
    have moved := leaveList_sweep (not_mem_of_own others mine) list position
    have next : (leaveList e s).sweep = .running (.entry x) again := by
      rw [moved]
      cases s.stepInHand <;> rfl
    have left : (leaveList e s).waitList = pre ++ x :: after := by
      rw [← erase_behind (not_mem_of_own others mine) (x :: after), ← list]
      rfl
    rw [List.filter_cons_of_pos mine, leaveAll_cons]
    cases mine' : own x with
    | true =>
      rw [ih mine' nodup left next, List.find?_cons_of_neg (by simp [mine']), List.filter_cons_of_neg (by simp [mine'])]
      rfl
    | false =>
      have stays : x ∉ (x :: after).filter own := fun mem => by simp [mine'] at mem
      rw [leaveAll_elsewhere stays next, List.find?_cons_of_pos (by simp [mine'])]
      cases s.stepInHand <;> rfl

/-- As `leaveAll_onwards`, with entries before the position that leave first. -/
theorem leaveAll_position (others : ∀ x ∈ pre, own x = false) {before after : List EntryIx} {e : EntryIx} {again : Bool}
    (mine : own e = true) (nodup : (before ++ e :: after).Nodup) {s : State} (list : s.waitList = pre ++ (before ++ e :: after))
    (position : s.sweep = .running (.entry e) again) :
    (leaveAll ((before ++ e :: after).filter own) s).sweep
      = movedTo s.stepInHand again (leaveAll ((before ++ e :: after).filter own) s).waitList (after.find? fun x => !own x) := by
  induction before generalizing pre s with
  | nil =>
    rw [List.nil_append] at list nodup ⊢
    rw [leaveAll_onwards others mine nodup list position, leaveAll_waitList others (e :: after) list,
      List.filter_cons_of_neg (by simp [mine])]
  | cons x before ih =>
    rw [List.cons_append] at list nodup ⊢
    obtain ⟨new, nodup⟩ := List.nodup_cons.mp nodup
    cases mine' : own x with
    | true =>
      have ne : e ≠ x := fun same => new (by simp [same])
      have left : (leaveList x s).waitList = pre ++ (before ++ e :: after) := by
        rw [← erase_behind (not_mem_of_own others mine') (before ++ e :: after), ← list]
        rfl
      have stays : (leaveList x s).sweep = .running (.entry e) again := by
        simp [leaveList, position, Sweep.movedPast, Sweep.settled, ne]
      rw [List.filter_cons_of_pos mine', leaveAll_cons]
      exact ih others nodup left stays
    | false =>
      rw [List.filter_cons_of_neg (by simp [mine'])]
      exact ih (others_snoc others mine') nodup (by simpa using list) position

end

/-! ### The purge -/

/-- Entry `e` is tenant `t`'s. -/
def ownedBy (t : Tenant) (s : State) (e : EntryIx) : Bool := decide ((s.life e).tenant? = some t)

theorem outOfList_eq (t : Tenant) (s : State) : outOfList t s = leaveAll (s.waitList.filter (ownedBy t s)) s := rfl

theorem purged_list (t : Tenant) (s : State) :
    (purged t s).waitList = (outOfList t s).waitList ∧ (purged t s).sweep = (outOfList t s).sweep := by
  obtain ⟨_, _, _, _, moved⟩ := mapLives_frame (purgeMove t s.cycle) (outOfList t s)
  unfold purged purgedEntries
  rw [moved]
  exact ⟨rfl, rfl⟩

/-- The purge by the life it finds (R41). -/
theorem purgedLife_getD (cycle : CycleState) (l : Life) : (purgedLife cycle l).getD l = match l with
    | .adding a q b _ _ => if cycle = .preparing then .free else .adding a q b true true
    | .live a q _ | .retiring a q _ => .retiring a q true
    | .dropping a q b _ => .dropping a q b true
    | .cooling a q f => .cooling a q f
    | .free | .pending _ _ _ | .staged _ _ => .free := by
  cases l with
  | adding a q b mark forced => simp only [purgedLife]; split <;> rfl
  | _ => rfl

theorem purge_leaves_out (t : Tenant) (s : State) (e : EntryIx) (h : ((purge t s).life e).tenant? = some t) :
    outOfPlan ((purge t s).life e) = true := by
  rw [purge_life] at h ⊢
  by_cases own : (s.life e).tenant? = some t
  · rw [purgeMove_own own]
    exact purgedLife_out _ _
  · rw [purgeMove_other own] at h
    exact absurd h own

/-- Settles O32, from the purge taken apart (`purge_eq`) and what the leaving of several entries does to list and sweep. -/
theorem purgeTakesOut : Obligations.PurgeTakesOut := by
  intro s t
  obtain ⟨list, sweep⟩ := purged_list t s
  rw [outOfList_eq] at list sweep
  have nobody : ∀ x ∈ ([] : List EntryIx), ownedBy t s x = false := nofun
  refine ⟨purged t s, purge_eq t s, ?_, ?_, fun idle => ?_, fun e again position other => ?_,
    fun before e after again nodup order position own => ?_, fun stepping again position => ?_, purged_sumsMatch t s, fun e => ?_, fun e other => ?_, fun e own => ?_, purge_leaves_out t s⟩
  · obtain ⟨_, _, _, _, _, _, frame⟩ := purged_frame t s
    generalize purged t s = u at frame
    subst frame
    rfl
  · rw [list, leaveAll_waitList nobody s.waitList rfl]
    simp [ownedBy]
  · rw [sweep]
    exact leaveAll_idle _ idle
  · rw [sweep, position]
    refine leaveAll_elsewhere (fun mem => ?_) position
    simp [ownedBy, other] at mem
  · have next : (fun x => decide ((s.life x).tenant? ≠ some t)) = fun x => !ownedBy t s x := by
      funext x
      simp [ownedBy]
    have moved := leaveAll_position nobody (decide_eq_true own : ownedBy t s e = true) (order ▸ nodup) (s := s) order position
    rw [← order, ← sweep, ← list] at moved
    dsimp only
    rw [next, moved, movedTo]
    refine ⟨fun idle => if_neg ?_, fun stepping => if_pos ?_⟩ <;> simpa [State.stepInHand]
  · rw [sweep, position]
    exact leaveAll_atEnd _ (by simp [State.stepInHand, stepping]) position
  · rw [purged_entry]
  · rw [purged_life, purgeMove_other other]
    rfl
  · rw [purged_life, purgeMove_own own]
    exact purgedLife_getD s.cycle (s.life e)

end Sys2Proof.Proofs
end

section
/-! PROOFS. The PLACE evaluation: its refusals, its grant and its wait (R28, R52, R62 to R64, R72 to R74). -/

namespace Sys2Proof.Proofs

open Machine Safety Laws

/-- An evaluation in the engine that passes its checks ends as its chapter says (R50, R165). -/
theorem completeFor_passes {α : Type} {select : EngineRequest → Option α}
    {eval : Profile → Tenant → α → State → State × Answer} {s u : State} {p : Profile} {t : Tenant} {r : EngineRequest} {x : α} {code : ResponseCode} {body : ResponseBody}
    (h : InEngine s p t r) (passes : requestCheck t (requestKind r) s = none) (selected : select r = some x)
    (answer : eval p t x s = (u, code, body)) :
    completeFor select eval (settleDue s) = concluded t (requestKind r) code body u := by
  rw [settleDue_settled s h.settled, completeFor_eq select eval s p t r x h.running h.inHand h.inSlot selected passes, answer]
  rfl

theorem completeFor_concludes {α : Type} {select : EngineRequest → Option α}
    {eval : Profile → Tenant → α → State → State × Answer} {s u : State} {p : Profile} {t : Tenant} {r : EngineRequest} {x : α} {code : ResponseCode} {body : ResponseBody}
    (h : Evaluating s p t r) (selected : select r = some x) (answer : eval p t x s = (u, code, body)) :
    completeFor select eval (settleDue s) = concluded t (requestKind r) code body u :=
  completeFor_passes h.toInEngine (requestCheck_none s p t r h) selected answer

theorem place_passes {s u : State} {p : Profile} {t : Tenant} {f : PlaceFields} {code : ResponseCode} {body : ResponseBody}
    (h : InEngine s p t (.place f)) (passes : requestCheck t .place s = none) (answer : evalPlace p t f s = (u, code, body)) :
    exec .place s = .next (concluded t .place code body u) :=
  congrArg Host.Outcome.next (completeFor_passes h passes rfl answer)

theorem place_concludes {s u : State} {p : Profile} {t : Tenant} {f : PlaceFields} {code : ResponseCode} {body : ResponseBody}
    (h : Evaluating s p t (.place f)) (answer : evalPlace p t f s = (u, code, body)) :
    exec .place s = .next (concluded t .place code body u) :=
  congrArg Host.Outcome.next (completeFor_concludes h rfl answer)

/-! ### The steps before the fit checks -/

section
variable {s : State} {p : Profile} {t : Tenant} {f : PlaceFields} {q : PlaceAsk} {a : Asked} {e : EntryIx}

theorem evalPlace_notAdmitted {code : ResponseCode} (h : admission p t f = .error code) :
    evalPlace p t f s = (s, code, .empty) := by
  rw [evalPlace, h]
  rfl

theorem evalPlace_tableFull (h : admission p t f = .ok (q, a)) (full : ∀ e, s.life e ≠ .free) :
    evalPlace p t f s = (s, .tableFull, .empty) := by
  have none : s.lowestFree = none := List.find?_eq_none.mpr fun e _ => by simp [full e]
  simp only [evalPlace, h, none, refusal]

theorem evalPlace_entryQuota (h : admission p t f = .ok (q, a)) (free : ∃ e, s.life e = .free)
    (atQuota : (p.tenant t).entryQuota ≤ s.entryCount[t]) : evalPlace p t f s = (s, .entryQuota, .empty) := by
  cases found : s.lowestFree with
  | none =>
    obtain ⟨e, free⟩ := free
    exact absurd (List.find?_eq_none.mp found e (List.mem_finRange e)) (by simp [free])
  | some e => simp only [evalPlace, h, found, if_pos atQuota, refusal]

theorem evalPlace_outright (h : Allocating s p t f q a e) (beyond : (p.tenant t).quota a.direction < a.width) :
    evalPlace p t f s = (bumpGeneration e s, .quota, .empty) := by
  simp only [evalPlace, h.admitted, lowestFree_eq s e h.isFree h.lowest, if_neg (Nat.not_le.mpr h.hasPlace), if_pos beyond, refusal]

end

/-- Settles O21. -/
theorem placeRefusals : Obligations.PlaceRefusals := fun _ _ _ _ h =>
  ⟨fun _ refused => place_concludes h (evalPlace_notAdmitted refused), fun _ _ admitted =>
    ⟨fun full => place_concludes h (evalPlace_tableFull admitted full),
      fun free atQuota => place_concludes h (evalPlace_entryQuota admitted free atQuota),
      fun _ allocating beyond => place_concludes h (evalPlace_outright allocating beyond)⟩⟩

/-! ### The grant -/

theorem bumped_free {s : State} {e : EntryIx} (free : s.life e = .free) : (bumpGeneration e s).life e = .free :=
  (bumpGeneration_life s e e).trans free

/-- A FREE entry given to a request, its generation moved on: the entry, and every other (R27, R28). -/
theorem given_entries {s : State} (e : EntryIx) (l : Life) :
    (setLife e l (bumpGeneration e s)).entry e = ⟨(s.entry e).generation + 1, l⟩
    ∧ ∀ x, x ≠ e → (setLife e l (bumpGeneration e s)).entry x = s.entry x :=
  ⟨by simp, fun x other => by rw [setLife_entry_ne _ _ _ _ other, bumpGeneration_entry_ne _ _ _ other]⟩

/-- What a FREE entry adds to the entry counts as it is given to a request (R33). -/
theorem given_entryCount {s : State} {e : EntryIx} {l : Life} {a : Asked} (free : s.life e = .free)
    (counted : l.counted? = some a.tenant) (v : Tenant) : (setLife e l (bumpGeneration e s)).entryCount[v] = s.entryCount[v] + if v = a.tenant then 1 else 0 := by
  have none : Life.free.countIn v = 0 := rfl
  rw [setLife_entryCount, bumped_free free, none, Life.countIn, counted]
  simp [eq_comm]

theorem given_load {s : State} {e : EntryIx} {a : Asked} {q : Placed} (free : s.life e = .free) (d : Direction) :
    (setLife e (.staged a q) (bumpGeneration e s)).load.get d = s.load.get d + if d = a.direction then q.load else 0 := by
  rw [setLife_load_get, bumped_free free]
  simp [Life.loadIn, Life.loaded?, eq_comm]

theorem given_held {s : State} {e : EntryIx} {a : Asked} {q : Placed} (free : s.life e = .free) (v : Tenant) (d : Direction) :
    (setLife e (.staged a q) (bumpGeneration e s)).held[v].get d
      = s.held[v].get d + if v = a.tenant ∧ d = a.direction then a.width else 0 := by
  rw [setLife_held_get, bumped_free free]
  simp [Life.heldIn, Life.loaded?, eq_comm]

theorem stage_pace (p : Profile) (e : EntryIx) (a : Asked) (q : Placed) (s : State) (v : Tenant) :
    (stage p e a q s).pace[v] = if v = a.tenant then (p.tenant a.tenant).paceFrames else s.pace[v] := by
  simp [stage, Vector.getElem_set, Fin.ext_iff, eq_comm]

/-- Settles O22. -/
theorem placeGranted : Obligations.PlaceGranted := by
  intro s p t f q a e g allocating fits b generation
  obtain rfl : a.tenant = t := admission_tenant p t f q a allocating.admitted
  have answer := evalPlace_allocated allocating ((Nat.le_add_left _ _).trans fits.quota)
  rw [fitChecks_ok p s a g fits] at answer
  obtain ⟨own, others⟩ := given_entries (s := s) e (.staged a b)
  refine ⟨stage p e a b (bumpGeneration e s), place_concludes allocating.toEvaluating (answer.trans ?_), rfl, own, others,
    given_load allocating.isFree, given_held allocating.isFree, given_entryCount allocating.isFree rfl, stage_pace p e a b _⟩
  simp [grantInfo, generation, b, placedSpan]

/-! ### The wait -/

theorem fitFailed_waits {p : Profile} {e : EntryIx} {a : Asked} {q : PlaceAsk} {r : PendingReason} {s : State}
    (waits : q.nowait = false) (room : s.waitList.length < 64) : fitFailed p e a q r s
      = (setLife e (.pending a r q.waitLimit) (joinList p.rankMode e a s),
         .pending, .pending ⟨e, (s.entry e).generation, r, a.windowLo, a.windowHi, a.width, a.priority, a.anchored, a.tag⟩) := by
  simp [fitFailed, waits, Config.waitListMax, Nat.not_le.mpr room]

/-- An entry on the list has equal or better rank than the request `a` (R77, R78). -/
def isAhead (mode : RankMode) (a : Asked) (s : State) (x : EntryIx) : Bool :=
  match (s.life x).asked? with
  | some b => decide (rankOf mode b ≤ rankOf mode a)
  | none => false

theorem joinList_eq (mode : RankMode) (e : EntryIx) (a : Asked) (s : State) :
    joinList mode e a s = { s with waitList := insertAfterLast (isAhead mode a s) e s.waitList } := rfl

theorem isAhead_iff (mode : RankMode) (a : Asked) (s : State) (x : EntryIx) :
    isAhead mode a s x = true ↔ ∃ b, (s.life x).asked? = some b ∧ rankOf mode b ≤ rankOf mode a := by
  unfold isAhead
  split
  · next b asked => simp [asked]
  · next asked => simp [asked]

/-- A FREE entry given to a request that waits changes the table, the entry counts and the list alone. -/
theorem waiting_frame {s : State} {e : EntryIx} (mode : RankMode) (a : Asked) (r : PendingReason) (w : Option Nat)
    (free : s.life e = .free) : ∃ before after,
      s.waitList = before ++ after
      ∧ (∀ x ∈ after, isAhead mode a s x = false) ∧ (∀ x, before.getLast? = some x → isAhead mode a s x = true)
      ∧ setLife e (.pending a r w) (joinList mode e a (bumpGeneration e s))
        = { setLife e (.pending a r w) (bumpGeneration e s) with
            load := s.load, held := s.held, waitList := before ++ e :: after } := by
  have same : isAhead mode a (bumpGeneration e s) = isAhead mode a s := by
    funext x
    rw [isAhead, bumpGeneration_life, isAhead]
  obtain ⟨before, after, split, joined, behind, last⟩ := insertAfterLast_split (isAhead mode a s) e s.waitList
  refine ⟨before, after, split, behind, last, ?_⟩
  have list : joinList mode e a (bumpGeneration e s) = { bumpGeneration e s with waitList := before ++ e :: after } := by
    rw [joinList_eq, same, bumpGeneration_waitList, joined]
  rw [list, setLife_unloaded e _ (bumpGeneration e s) rfl (by rw [bumped_free free]; rfl)]
  rw [setLife_unloaded e _ _ rfl (by change ((bumpGeneration e s).life e).loaded? = none; rw [bumped_free free]; rfl)]
  rfl

/-- Settles O23. -/
theorem placeWaits : Obligations.PlaceWaits := by
  intro s p t f q a e r allocating within fails generation bumped ahead
  have answer := evalPlace_allocated allocating within
  rw [fitChecks_error p s a r fails] at answer
  have concludes {u : State} {code : ResponseCode} {body : ResponseBody}
      (h : fitFailed p e a q r (bumpGeneration e s) = (u, code, body)) : exec .place s = .next (concluded t .place code body u) :=
    place_concludes allocating.toEvaluating (answer.trans h)
  refine ⟨fun nowait => concludes ?_, fun waits full => concludes ?_, fun waits room => ?_⟩
  · rw [fitFailed, if_pos nowait]
    cases r <;> rfl
  · rw [fitFailed, if_neg (by simp [waits]), if_pos (show Config.waitListMax ≤ (bumpGeneration e s).waitList.length from full)]
    rfl
  · obtain rfl : a.tenant = t := admission_tenant p t f q a allocating.admitted
    obtain ⟨before, after, split, behind, last, frame⟩ := waiting_frame p.rankMode a r q.waitLimit allocating.isFree
    obtain ⟨own, others⟩ := given_entries (s := s) e (.pending a r q.waitLimit)
    have count := given_entryCount (s := s) (l := .pending a r q.waitLimit) (a := a) allocating.isFree rfl
    have fails : fitFailed p e a q r (bumpGeneration e s) = _ := fitFailed_waits waits room
    have moved : ((bumpGeneration e s).entry e).generation = generation := by simp [generation]
    rw [frame, moved] at fails
    refine ⟨{ setLife e (.pending a r q.waitLimit) (bumpGeneration e s) with
      load := s.load, held := s.held, waitList := before ++ e :: after }, before, after, concludes fails, rfl, own, others, count,
      split, fun x hx h => ?_, fun x hx => (isAhead_iff p.rankMode a s x).mp (last x hx)⟩
    exact absurd ((isAhead_iff p.rankMode a s x).mpr h) (by simp [behind x hx])

/-! ### No trace -/

/-- A PLACE is granted, or left pending, or answered with a code alone and nothing but a FREE entry's generation moved. -/
theorem evalPlace_leaves (p : Profile) (t : Tenant) (f : PlaceFields) (s : State) :
    (evalPlace p t f s).2.1 = .granted ∨ (evalPlace p t f s).2.1 = .pending
    ∨ ∃ code u, evalPlace p t f s = (u, code, .empty) ∧ (u = s ∨ ∃ e, s.life e = .free ∧ u = bumpGeneration e s) := by
  unfold evalPlace
  split
  · exact .inr (.inr ⟨_, s, rfl, .inl rfl⟩)
  next q a admitted =>
  split
  · exact .inr (.inr ⟨_, s, rfl, .inl rfl⟩)
  next e found =>
  have bumped : ∃ x, s.life x = .free ∧ bumpGeneration e s = bumpGeneration x s := ⟨e, lowestFree_life found, rfl⟩
  split
  · exact .inr (.inr ⟨_, s, rfl, .inl rfl⟩)
  dsimp only
  split
  · exact .inr (.inr ⟨_, _, rfl, .inr bumped⟩)
  split
  · exact .inl rfl
  unfold fitFailed
  split
  · exact .inr (.inr ⟨_, _, rfl, .inr bumped⟩)
  split
  · exact .inr (.inr ⟨_, _, rfl, .inr bumped⟩)
  · exact .inr (.inl rfl)

theorem concluded_response (t : Tenant) (k : FrameKind) (code : ResponseCode) (body : ResponseBody) (s : State) :
    ((concluded t k code body s).port t).response = some ⟨k.code, code, body⟩ := by
  have placed (v : State) : ({ v with inHand := none } : State).port t = v.port t := rfl
  rw [concluded, placed, setPort_port]

/-- A FREE entry whose generation moves on leaves every life and every other generation (R27). -/
theorem bumpGeneration_trace {s : State} {e : EntryIx} (free : s.life e = .free) (x : EntryIx) :
    ((bumpGeneration e s).entry x).generation = (s.entry x).generation
      ∨ s.life x = .free ∧ ((bumpGeneration e s).entry x).generation = (s.entry x).generation + 1 := by
  by_cases same : x = e
  · subst same
    exact .inr ⟨free, by simp⟩
  · exact .inl (by rw [bumpGeneration_entry_ne _ _ _ same])

/-- Settles O24. -/
theorem refusedPlaceLeavesNoTrace : Obligations.RefusedPlaceLeavesNoTrace := by
  intro s p t f h v r next response notGranted notPending
  have refused : ∃ code u, v = concluded t .place code .empty u ∧ (u = s ∨ ∃ e, s.life e = .free ∧ u = bumpGeneration e s) := by
    cases check : requestCheck t .place s with
    | some c =>
      cases next.symm.trans (completion_refused h check)
      exact ⟨c, s, rfl, .inl rfl⟩
    | none =>
      have ends : v = concluded t .place (evalPlace p t f s).2.1 (evalPlace p t f s).2.2 (evalPlace p t f s).1 := by
        cases next.symm.trans (place_passes h check rfl)
        rfl
      subst ends
      rw [concluded_response] at response
      cases response
      obtain granted | pending | ⟨code, u, answer, trace⟩ := evalPlace_leaves p t f s
      · exact absurd granted notGranted
      · exact absurd pending notPending
      · exact ⟨code, u, by rw [answer], trace⟩
  obtain ⟨code, u, rfl, trace⟩ := refused
  rw [concluded_response] at response
  cases response
  refine ⟨rfl, rfl, u, rfl, ?_⟩
  rcases trace with rfl | ⟨e, free, rfl⟩
  · exact ⟨rfl, fun _ => rfl, fun _ => .inl rfl⟩
  · exact ⟨rfl, bumpGeneration_life s e, bumpGeneration_trace free⟩

end Sys2Proof.Proofs
end

section
/-! PROOFS. RELEASE, WITHDRAW, QUERY_SPAN and QUERY_MAP by the entry or granule they find (R27, R37 to R40, R45, R46, R86). -/

namespace Sys2Proof.Proofs

open Machine Safety Laws

/-! ### Handles (R27) -/

/-- Who an entry counts toward: its tenant while it is in neither FREE nor COOLING (R33). -/
theorem counted?_iff (l : Life) (t : Tenant) :
    l.counted? = some t ↔ l.tenant? = some t ∧ ∀ a p f, l ≠ .cooling a p f := by
  cases l <;> simp [Life.counted?, Life.tenant?, Life.asked?]

/-- A handle names the entry of its index, when it names one. -/
theorem names_iff (s : State) (t : Tenant) (h : Handle) (e : EntryIx) : Names s t h e
    ↔ e = h.index.toFin ∧ (s.entry h.index.toFin).generation = h.generation ∧ (s.life h.index.toFin).counted? = some t := by
  constructor
  · rintro ⟨index, generation, owner, notCooling⟩
    obtain rfl : e = h.index.toFin := Fin.ext index
    exact ⟨rfl, generation, (counted?_iff _ t).mpr ⟨owner, notCooling⟩⟩
  · rintro ⟨rfl, generation, counted⟩
    obtain ⟨owner, notCooling⟩ := (counted?_iff _ t).mp counted
    exact ⟨rfl, generation, owner, notCooling⟩

theorem validHandle_of_names {s : State} {t : Tenant} {h : Handle} {e : EntryIx} (names : Names s t h e) :
    validHandle t h s = some e := by
  obtain ⟨rfl, valid⟩ := (names_iff s t h e).mp names
  exact if_pos valid

theorem validHandle_of_nothing {s : State} {t : Tenant} {h : Handle} (nothing : ∀ e, ¬ Names s t h e) : validHandle t h s = none :=
  if_neg fun valid => nothing h.index.toFin ((names_iff s t h _).mpr ⟨rfl, valid⟩)

/-! ### RELEASE (R37 to R40) -/

/-- An entry whose batch its tenant must answer for: ADDING, or DROPPING without forced (R39, R101). -/
theorem calls?_iff (l : Life) (t : Tenant) : l.calls? = some t
    ↔ l.tenant? = some t ∧ ((∃ a q b m f, l = .adding a q b m f) ∨ ∃ a q b, l = .dropping a q b false) := by
  cases l with
  | dropping a q b f => cases f <;> simp [Life.calls?, Life.tenant?, Life.asked?]
  | _ => simp [Life.calls?, Life.tenant?, Life.asked?]

theorem owesAnswer_iff (s : State) (t : Tenant) : s.owesAnswer t = true ↔ ∃ x, (s.life x).calls? = some t := by
  simp only [State.owesAnswer, table_toList, List.any_map, List.any_eq_true, Function.comp_apply, decide_eq_true_eq]
  exact ⟨fun ⟨x, _, h⟩ => ⟨x, h⟩, fun ⟨x, h⟩ => ⟨x, List.mem_finRange x, h⟩⟩

/-- With entry `e` freed, the tenant owes an answer for another entry alone. -/
theorem owesAnswer_freed (s : State) (t : Tenant) (e : EntryIx) : (requestSweep (setLife e .free s)).owesAnswer t = true
    ↔ ∃ x, x ≠ e ∧ (s.life x).tenant? = some t
      ∧ ((∃ a q b m f, s.life x = .adding a q b m f) ∨ ∃ a q b, s.life x = .dropping a q b false) := by
  rw [owesAnswer_iff]
  have life (x : EntryIx) : (requestSweep (setLife e .free s)).life x = if x = e then .free else s.life x :=
    setLife_life_eq s e x .free
  refine exists_congr fun x => ?_
  rw [life, calls?_iff]
  split <;> simp [Life.tenant?, Life.asked?, *]

section
variable {s u : State} {p : Profile} {t : Tenant} {h : Handle} {e : EntryIx} {code : ResponseCode} {body : ResponseBody}

theorem release_concludes (evaluating : Evaluating s p t (.release h)) (answer : evalRelease p t h s = (u, code, body)) :
    exec .release s = .next (concluded t .release code body u) :=
  congrArg Host.Outcome.next (completeFor_concludes evaluating rfl answer)

theorem withdraw_concludes (evaluating : Evaluating s p t (.withdraw h)) (answer : evalWithdraw p t h s = (u, code, body)) :
    exec .withdraw s = .next (concluded t .withdraw code body u) :=
  congrArg Host.Outcome.next (completeFor_concludes evaluating rfl answer)

theorem querySpan_concludes (evaluating : Evaluating s p t (.querySpan h)) (answer : evalQuerySpan p t h s = (u, code, body)) :
    exec .querySpan s = .next (concluded t .querySpan code body u) :=
  congrArg Host.Outcome.next (completeFor_concludes evaluating rfl answer)

end

/-- Settles O27. -/
theorem releaseAnswers : Obligations.ReleaseAnswers := by
  intro s p t h evaluating answers
  refine ⟨fun nothing => release_concludes evaluating ?_, fun e names => ?_⟩
  · simp only [evalRelease, validHandle_of_nothing nothing, refusal]
  have valid := validHandle_of_names names
  refine ⟨fun _ _ _ life => ?_, fun _ _ life => ?_, fun _ _ _ life => ?_, fun _ _ _ life => ?_, fun _ _ _ _ life => ?_,
    fun _ _ _ _ life => ?_, fun a q b forced life => ⟨fun armed => ?_, fun preparing => ?_⟩⟩
  iterate 6 exact release_concludes evaluating (by simp only [evalRelease, valid, life, refusal])
  · exact release_concludes evaluating (by simp [evalRelease, valid, life, refusal, armed])
  · intro u owes
    have released : evalRelease p t h s = (releaseFromBatch t e s, .ok, .empty) := by
      simp [evalRelease, valid, life, refusal, preparing]
    refine ⟨fun stays => ?_, fun expected alone => ?_⟩
    · have kept : ¬ (t ∈ u.expected ∧ u.owesAnswer t = false) := fun ⟨expected, alone⟩ => by
        rcases stays with out | owing
        · exact out expected
        · exact absurd (((owesAnswer_freed s t e).mpr owing).symm.trans alone) nofun
      exact release_concludes evaluating (released.trans (by rw [releaseFromBatch, if_neg kept]))
    · have leaves : t ∈ u.expected ∧ u.owesAnswer t = false :=
        ⟨expected, by simpa using fun owing => alone ((owesAnswer_freed s t e).mp owing)⟩
      exact release_concludes evaluating (released.trans (by rw [releaseFromBatch, if_pos leaves]; rfl))

/-! ### WITHDRAW and QUERY_SPAN (R45, R86) -/

theorem evalWithdraw_placed {s : State} {t : Tenant} {h : Handle} {e : EntryIx} (names : Names s t h e)
    (placed : ∀ a r w, s.life e ≠ .pending a r w) (p : Profile) : evalWithdraw p t h s = (s, .notPending, .empty) := by
  have owner := names.owner
  have notCooling := names.notCooling
  simp only [evalWithdraw, validHandle_of_names names]
  cases life : s.life e with
  | free => simp [life, Life.tenant?, Life.asked?] at owner
  | pending a r w => exact absurd life (placed a r w)
  | cooling a q f => exact absurd life (notCooling a q f)
  | _ => rfl

/-- Settles O28. -/
theorem withdrawAndQuerySpan : Obligations.WithdrawAndQuerySpan := by
  refine ⟨fun s p t h evaluating => ⟨fun nothing => ?_, fun e names => ⟨?_, fun placed => ?_⟩⟩,
    fun s p t h evaluating => ⟨fun nothing => ?_,
      fun e names => ⟨Config.clampedBitOfPending s.freeCount, s.freeCount + 1, ?_⟩⟩⟩
  · exact withdraw_concludes evaluating (by simp only [evalWithdraw, validHandle_of_nothing nothing, refusal])
  · rintro ⟨a, r, w, life⟩
    exact withdraw_concludes evaluating (by simp only [evalWithdraw, validHandle_of_names names, life, refusal])
  · exact withdraw_concludes evaluating (evalWithdraw_placed names placed p)
  · exact querySpan_concludes evaluating (by simp only [evalQuerySpan, validHandle_of_nothing nothing, refusal])
  · exact querySpan_concludes evaluating (by simp only [evalQuerySpan, validHandle_of_names names])

/-! ### QUERY_MAP (R46) -/

/-- A span in the plan lies on granule `g`. -/
def liesOn (l : Life) (g : Nat) : Prop := ∃ a q, l.occupies? = some (a, q) ∧ q.first ≤ g ∧ g < q.first + a.width

/-- The first line of R46's table that applies to a granule gives its value. -/
structure MapLine (p : Profile) (t : Tenant) (s : State) (g : Nat) (v : MapValue) : Prop where
  hidden  : p.accessAt t g = .none → v = .hidden
  cooling : p.accessAt t g ≠ .none → (∃ e a q f, s.life e = .cooling a q f ∧ liesOn (s.life e) g) → v = .cooling
  own     : p.accessAt t g ≠ .none → ¬ (∃ e a q f, s.life e = .cooling a q f ∧ liesOn (s.life e) g) →
    (∃ e, liesOn (s.life e) g ∧ (s.life e).tenant? = some t) → v = .own
  taken   : p.accessAt t g ≠ .none → ¬ (∃ e a q f, s.life e = .cooling a q f ∧ liesOn (s.life e) g) →
    ¬ (∃ e, liesOn (s.life e) g ∧ (s.life e).tenant? = some t) → (∃ e, liesOn (s.life e) g) → v = .taken
  closed  : p.accessAt t g ≠ .none → ¬ (∃ e, liesOn (s.life e) g) → p.openAt g = false → v = .closed
  free    : p.accessAt t g ≠ .none → ¬ (∃ e, liesOn (s.life e) g) → p.openAt g ≠ false → v = .free

theorem mapValue_line (p : Profile) (t : Tenant) (s : State) (g : Nat) : MapLine p t s g (mapValue p t s g) := by
  unfold mapValue
  extract_lets touches lives
  have touches_iff (l : Life) : touches l = true ↔ liesOn l g := by
    unfold touches liesOn
    split
    · next a q occupied => simp [occupied, covers]
    · next occupied => simp [occupied]
  have any_iff (test : Life → Bool) : lives.any test = true ↔ ∃ e, liesOn (s.life e) g ∧ test (s.life e) = true := by
    simp only [lives, table_toList, List.map_map, List.any_filter, List.any_map, List.any_eq_true, Function.comp_apply,
      Bool.and_eq_true, touches_iff]
    exact ⟨fun ⟨e, _, h⟩ => ⟨e, h⟩, fun ⟨e, h⟩ => ⟨e, List.mem_finRange e, h⟩⟩
  have cooling_iff : (lives.any fun l => match l with | .cooling _ _ _ => true | _ => false) = true
      ↔ ∃ e a q f, s.life e = .cooling a q f ∧ liesOn (s.life e) g := by
    rw [any_iff]
    refine exists_congr fun e => ?_
    cases s.life e <;> simp
  have own_iff : (lives.any fun l => decide (l.tenant? = some t)) = true
      ↔ ∃ e, liesOn (s.life e) g ∧ (s.life e).tenant? = some t := by simp [any_iff]
  have taken_iff : (!lives.isEmpty) = true ↔ ∃ e, liesOn (s.life e) g := by
    have anything : (!lives.isEmpty) = lives.any fun _ => true := by cases lives <;> simp
    simp [anything, any_iff]
  have bare (none : ¬ ∃ e, liesOn (s.life e) g) : ¬ (∃ e a q f, s.life e = .cooling a q f ∧ liesOn (s.life e) g)
      ∧ ¬ ∃ e, liesOn (s.life e) g ∧ (s.life e).tenant? = some t :=
    ⟨fun ⟨e, _, _, _, _, lies⟩ => none ⟨e, lies⟩, fun ⟨e, lies, _⟩ => none ⟨e, lies⟩⟩
  exact
    { hidden := fun h => if_pos h
      cooling := fun h c => (if_neg h).trans (if_pos (cooling_iff.mpr c))
      own := fun h c o => (if_neg h).trans ((if_neg (cooling_iff.not.mpr c)).trans (if_pos (own_iff.mpr o)))
      taken := fun h c o some => (if_neg h).trans ((if_neg (cooling_iff.not.mpr c)).trans
        ((if_neg (own_iff.not.mpr o)).trans (if_pos (taken_iff.mpr some))))
      closed := fun h none closed => (if_neg h).trans ((if_neg (cooling_iff.not.mpr (bare none).1)).trans
        ((if_neg (own_iff.not.mpr (bare none).2)).trans ((if_neg (taken_iff.not.mpr none)).trans (if_pos closed))))
      free := fun h none opened => (if_neg h).trans ((if_neg (cooling_iff.not.mpr (bare none).1)).trans
        ((if_neg (own_iff.not.mpr (bare none).2)).trans ((if_neg (taken_iff.not.mpr none)).trans (if_neg opened)))) }

theorem queryMap_concludes {s u : State} {p : Profile} {t : Tenant} {lo : BitVec 16} {count : Byte} {code : ResponseCode}
    {body : ResponseBody} (evaluating : Evaluating s p t (.queryMap lo count))
    (answer : evalQueryMap p t (lo, count) s = (u, code, body)) : exec .queryMap s = .next (concluded t .queryMap code body u) :=
  congrArg Host.Outcome.next (completeFor_concludes evaluating rfl answer)

/-- Settles O29. -/
theorem queryMapAnswers : Obligations.QueryMapAnswers := by
  intro s p t lo count evaluating inRange lies
  refine ⟨fun outside => queryMap_concludes evaluating (if_neg outside),
    fun inside => ⟨_, queryMap_concludes evaluating (if_pos inside), by simp, fun k v found => ?_⟩⟩
  have value : v = mapValue p t s (lo.toNat + k) := by
    obtain ⟨_, rfl⟩ : ∃ h : k < count.toNat, mapValue p t s (lo.toNat + k) = v := by
      simpa [List.getElem?_eq_some_iff] using found
    rfl
  subst value
  have line := mapValue_line p t s (lo.toNat + k)
  exact ⟨line.hidden, line.cooling, line.own, line.taken, line.closed, line.free⟩

end Sys2Proof.Proofs
end

section
/-! PROOFS. The expiries of a frame event, each taken by its own command (R35, R64, R89, R96, R156, R158). -/

namespace Sys2Proof.Proofs

open Machine Safety Laws

section
variable {s : State} {p : Profile} {t : Tenant} {e : EntryIx}

theorem cadenceOut_at (h : s.cadence = 0) (p : Profile) :
    cadenceOut p s = { s with trigger := true, cadence := p.cadenceFrames } := if_pos h

theorem holdOut_at {a : Asked} {q : Placed} (h : s.life e = .live a q (some 0)) : holdOut e s
    = issue a.tenant (.expired e (s.entry e).generation a.direction q.first a.width) (setLife e (.retiring a q false) s) := by
  simp only [holdOut, h]

theorem waitOut_at {a : Asked} {r : PendingReason} (h : s.life e = .pending a r (some 0)) : waitOut e s
    = issue a.tenant (.lapsed e (s.entry e).generation a.direction a.windowLo a.windowHi a.width r)
        (setLife e .free (leaveList e s)) := by
  simp only [waitOut, h]

theorem recoveryOut_auto (isolated : (s.record t).isolated = true) (out : (s.record t).recovery = some 0)
    (auto : p.recoveryMode = .auto) : recoveryOut p t s = issue t (.recovered .auto .auto .config)
      ((s.setRecord t resetConduct).setPort t { s.port t with mode := .config }) := by
  rw [recoveryOut, if_pos ⟨isolated, out, auto⟩, takeRecovery, auto]
  rfl

theorem recoveryOut_other (h : p.recoveryMode ≠ .auto) : recoveryOut p t s = s := if_neg fun ⟨_, _, auto⟩ => h auto

end

/-- Settles O40: an expiry that is due is its effect (`takeExpiry_due`), and one that is not is nothing. -/
theorem expiriesTaken : Obligations.ExpiriesTaken := by
  intro s p running left
  have due {it : FrameItem} {c : Instr} {u : State} (row : exec c s = .next (takeExpiry it s)) (mem : it ∈ s.due)
      (effect : expire p it (left it) = u) : exec c s = .next u := by
    rw [row, takeExpiry_due it s p running mem, ← effect]
  have undue {it : FrameItem} {c : Instr} (row : exec c s = .next (takeExpiry it s)) (out : it ∉ s.due) : exec c s = .next s := by
    rw [row, takeExpiry_not_due it s out]
  exact ⟨fun mem out => due rfl mem (cadenceOut_at (s := left .cadence) out p),
    fun e a q mem life => due rfl mem (holdOut_at (s := left (.hold e)) life),
    fun e a r mem life => due rfl mem (waitOut_at (s := left (.lapse e)) life), fun t mem => due rfl mem rfl,
    fun t mem isolated out => ⟨fun auto => due rfl mem (recoveryOut_auto (s := left (.recovery t)) isolated out auto),
      fun other => due rfl mem (recoveryOut_other other)⟩,
    undue rfl, fun e => undue rfl, fun e => undue rfl, fun t => undue rfl, fun t => undue rfl⟩

end Sys2Proof.Proofs
end

section
/-! PROOFS. A port reset with its release (R51, R172, R173), and the arbiter's grant (R48, R49). -/

namespace Sys2Proof.Proofs

open Machine Safety Laws

/-! ### A port reset -/

theorem takesPart_iff (m : PortMode) : m.takesPart = true ↔ m = .active ∨ m = .paused := by
  cases m <;> simp [PortMode.takesPart]

theorem issueAll_sdo (ts : List Tenant) (body : NoticeBody) (s : State) (t : Tenant) :
    ((issueAll ts body s).port t).sdo = (s.port t).sdo := by
  induction ts generalizing s with
  | nil => rfl
  | cons u ts ih =>
    obtain ⟨_, _, noted⟩ := noted_frame s.frameCounter body (s.port u)
    rw [issueAll, List.foldl_cons, ← issueAll, ih, issue, setPort_port_eq]
    split
    · next same => rw [noted, same]
    · rfl

theorem proceed_sdo (s : State) (t : Tenant) : ((proceed s).port t).sdo = (s.port t).sdo := by
  unfold proceed
  split
  · split
    · rfl
    · exact issueAll_sdo s.called _ s t
  · rfl

theorem proceed_inHand (s : State) : (proceed s).inHand = s.inHand := by
  obtain ⟨_, _, _, _, _, _, _, _, _, h⟩ := proceed_frame s
  exact (congrArg State.inHand h :)

section
variable (t : Tenant) (s : State)

theorem purge_inHand : (purge t s).inHand = s.inHand := by
  have asked (v : State) : (requestSweep { v with trigger := true }).inHand = v.inHand := rfl
  obtain ⟨_, _, _, _, _, _, h⟩ := purged_frame t s
  have stands : (purged t s).inHand = s.inHand := (congrArg State.inHand h :)
  rw [purge_eq, asked]
  split
  · exact (proceed_inHand _).trans stands
  · exact stands

/-- A purge issues notices at most, so a port keeps the bytes it last sent. -/
theorem purge_sdo (u : Tenant) : ((purge t s).port u).sdo = (s.port u).sdo := by
  have asked (v : State) : (requestSweep { v with trigger := true }).port u = v.port u := rfl
  obtain ⟨_, _, _, _, _, _, h⟩ := purged_frame t s
  have stands : (purged t s).port u = s.port u := (congrArg (fun v : State => v.port u) h :)
  rw [purge_eq, asked]
  split
  · rw [proceed_sdo, stands]
  · rw [stands]

end

/-- A port held in reset: only the bytes it last sent are left (R172). -/
def heldPort (sdo : List Byte) : Port :=
  { mode := .offline, request := none, response := none, queue := [], mask := 0x7FF#11, missed := 0, collided := false,
    malformed := false, prst := true, underWay := none, sdo }

/-- Port `t` of `u` is held in reset and the evaluation in hand for it is discarded (R51, R172). -/
def heldReset (t : Tenant) (u : State) : State :=
  { u.setPort t (heldPort (u.port t).sdo) with inHand := if u.inHand = some (.port t) then none else u.inHand }

theorem heldReset_eq {t : Tenant} {u : State} {hand : Option Requester} {sdo : List Byte} (inHand : u.inHand = hand)
    (sent : (u.port t).sdo = sdo) : heldReset t u
      = { u.setPort t (heldPort sdo) with inHand := if hand = some (.port t) then none else hand } := by
  subst inHand sent
  rfl

theorem discardHand_eq (t : Tenant) (u : State) : (if u.inHand = some (.port t) then { u with inHand := none } else u)
    = { u with inHand := if u.inHand = some (.port t) then none else u.inHand } := by
  split <;> rfl

theorem exec_portReset {s : State} (settled : Settled s) (t : Tenant) : exec (.portReset t) s = .next (heldReset t
    (if (s.port t).mode.takesPart then purge t (setMode t .offline s) else setMode t .offline s)) := by
  rw [exec, execPortReset, settleDue_settled s settled]
  exact congrArg Host.Outcome.next (discardHand_eq t _)

/-- Settles O16. The purge keeps what the reset reads of its state: the evaluation in hand and the bytes last sent. -/
theorem portResetLeaves : Obligations.PortResetLeaves := by
  refine ⟨fun s t settled => ⟨fun aside => ?_, fun takes => ?_⟩, fun s t settled held => ?_⟩
  · have idle : ¬ (s.port t).mode.takesPart = true := by
      rw [takesPart_iff]
      rcases aside with h | h <;> simp [h]
    have sent : ((setMode t .offline s).port t).sdo = (s.port t).sdo := by rw [setMode, setPort_port]
    have inHand : (setMode t .offline s).inHand = s.inHand := rfl
    rw [exec_portReset settled, if_neg idle, heldReset_eq inHand sent, setMode, setPort_setPort]
    rfl
  · have sent : ((purge t (setMode t .offline s)).port t).sdo = (s.port t).sdo := by
      rw [purge_sdo, setMode, setPort_port]
    have inHand : (purge t (setMode t .offline s)).inHand = s.inHand := purge_inHand t _
    rw [exec_portReset settled, if_pos ((takesPart_iff _).mpr takes), heldReset_eq inHand sent]
    rfl
  · rw [exec, execPortResetRelease, settleDue_settled s settled]
    exact if_pos held

/-! ### The arbiter -/

/-- How far round the ring from `position` a requester stands (R49). -/
def ringWay (position r : Requester) : Nat := (ringPlace r + 5 - ringPlace position) % 5

theorem ringPlace_next (r : Requester) : ringPlace r.next = (ringPlace r + 1) % 5 := by
  cases r with
  | port t => revert t; decide
  | sweep => rfl

/-- The ring from a position on holds every requester, in the order of its way from there. -/
theorem ringFrom_ordered (position : Requester) :
    (ringFrom position).Pairwise (fun r r' => ringWay position r < ringWay position r') ∧ ∀ r, r ∈ ringFrom position := by
  have every (l : List Requester) (ports : ∀ t : Tenant, .port t ∈ l) (sweep : .sweep ∈ l) : ∀ r, r ∈ l
    | .port t => ports t
    | .sweep => sweep
  cases position with
  | port t => refine ⟨?_, every _ ?_ ?_⟩ <;> revert t <;> decide
  | sweep => exact ⟨by decide, every _ (by decide) (by decide)⟩

/-- The first element of an ordered list that passes a test is the one that comes before every other that does. -/
theorem find?_least {α : Type} {test : α → Bool} {way : α → Nat} {l : List α} (ordered : l.Pairwise fun x y => way x < way y)
    {x : α} (mem : x ∈ l) (passes : test x = true)
    (least : ∀ y, test y = true → way x ≤ way y) : l.find? test = some x := by
  obtain ⟨before, after, rfl⟩ := List.append_of_mem mem
  refine List.find?_eq_some_iff_append.mpr ⟨passes, before, after, rfl, fun y hy => ?_⟩
  have nearer : way y < way x := (List.pairwise_append.mp ordered).2.2 y hy x List.mem_cons_self
  have : ¬ test y = true := fun h => (least y h).not_gt nearer
  simpa using this

/-- With the engine free, every request in a slot is one not yet started (R48). -/
theorem waiting_port {s : State} (free : s.inHand = none) (t : Tenant) : s.waiting (.port t) = (s.port t).request.isSome := by
  simp [State.waiting, free]

/-- With the engine free, the sweep waits while it stands on an entry (R82). -/
theorem waiting_sweep {s : State} (free : s.inHand = none) :
    s.waiting .sweep = true ↔ ∃ e again, s.sweep = .running (.entry e) again := by
  simp only [State.waiting, State.stepInHand, free]
  split
  · next position => simp [position]
  · next elsewhere => simpa using elsewhere

theorem grantEngine_busy {s : State} (h : s.inHand ≠ none ∨ s.profile? = none) : grantEngine s = s := by
  unfold grantEngine
  split
  · next free running => simp [free, running] at h
  · rfl

theorem grantEngine_nobody {s : State} (h : (ringFrom s.arbiter).find? s.waiting = none) : grantEngine s = s := by
  unfold grantEngine
  split
  · rw [h]
  · rfl

theorem grantEngine_first {s : State} {p : Profile} {r : Requester} (free : s.inHand = none) (running : s.device = .running p)
    (first : (ringFrom s.arbiter).find? s.waiting = some r) : grantEngine s = { s with inHand := some r, arbiter := r.next } := by
  simp only [grantEngine, free, State.profile?, running, first]

/-- Settles O19: the first that waits on the ring is the nearest from the position on (`find?_least`, `ringFrom_ordered`). -/
theorem arbiterGrantsRing : Obligations.ArbiterGrantsRing := by
  intro s settled waits way
  have row : exec .arbiterGrant s = .next (grantEngine s) := by
    rw [exec, execArbiterGrant, settleDue_settled s settled]
  have waits_iff (free : s.inHand = none) (r : Requester) : s.waiting r = true ↔ waits r := by
    cases r with
    | port t => exact Bool.eq_iff_iff.mp (waiting_port free t)
    | sweep => exact waiting_sweep free
  rw [row]
  refine ⟨fun blocked => congrArg _ ?_, fun p r running free mine nearest => ⟨r.next, ringPlace_next r, congrArg _ ?_⟩⟩
  · by_cases busy : s.inHand ≠ none ∨ s.profile? = none
    · exact grantEngine_busy busy
    obtain ⟨free, running⟩ := not_or.mp busy
    have nobody : ∀ r, ¬ waits r := (blocked.resolve_left free).resolve_left running
    exact grantEngine_nobody (List.find?_eq_none.mpr fun r _ => (waits_iff (not_not.mp free) r).not.mpr (nobody r))
  · obtain ⟨ordered, every⟩ := ringFrom_ordered s.arbiter
    exact grantEngine_first free running (find?_least ordered (every r) ((waits_iff free r).mpr mine)
      fun r' waiting => nearest r' ((waits_iff free r').mp waiting))

end Sys2Proof.Proofs
end

section
/-! PROOFS. Steps 2 to 5 of a PLACE: the fields, the direction, the deciding rule with its effects, and the tenant's rights (R54 to
R61). -/

namespace Sys2Proof.Proofs

open Machine Safety Laws

/-! ### Step 2: the fields -/

/-- The field ranges of step 2 (R54). -/
structure FieldsInRange (f : PlaceFields) : Prop where
  direction : f.direction.toNat ≤ 1
  placement : f.placement.toNat ≤ 1
  width     : 1 ≤ f.width.toNat ∧ f.width.toNat ≤ 1200
  density   : -8 ≤ f.density.toInt ∧ f.density.toInt ≤ 6
  priority  : f.priority.toNat ≤ 7
  exactSpan : f.placement = 0 → f.firstOrLo.toNat + f.width.toNat - 1 ≤ 1199
  flexHi    : f.placement = 1 → f.firstOrLo.toNat ≤ f.windowHi.toNat ∧ f.windowHi.toNat ≤ 1199

/-- A request as step 2 reads it from the fields of its frame (R54, R175). -/
structure AskOf (f : PlaceFields) (q : PlaceAsk) : Prop where
  lo          : q.lo = f.firstOrLo.toNat
  width       : q.width = f.width.toNat
  density     : q.density = f.density.toInt
  priority    : q.priority = f.priority.toNat
  serviceCode : q.serviceCode = f.serviceCode
  nowait      : q.nowait = f.nowait
  direction   : directionOf f.direction = some q.direction
  placement   : placementOf f.placement = some q.placement
  exactHi     : q.placement = .exact → q.hi = q.lo + q.width - 1
  flexHi      : q.placement = .flex → q.hi = f.windowHi.toNat
  hold        : q.hold = optField f.hold
  waitLimit   : q.waitLimit = optField f.waitLimit
  ordered     : q.lo ≤ q.hi

theorem directionOf_eq_some {b : Byte} {d : Direction} (h : directionOf b = some d) : b.toNat ≤ 1 ∧ (d = .up ↔ b = 0) := by
  unfold directionOf at h
  split at h
  · next zero => cases h; subst zero; decide
  split at h
  · next one => cases h; subst one; decide
  · cases h

theorem placementOf_eq_some {b : Byte} {pl : Placement} (h : placementOf b = some pl) :
    b.toNat ≤ 1 ∧ (pl = .exact ↔ b = 0) ∧ (pl = .flex ↔ b = 1) := by
  unfold placementOf at h
  split at h
  · next zero => cases h; subst zero; decide
  split at h
  · next one => cases h; subst one; decide
  · cases h

theorem byte_le_one {b : Byte} (h : b.toNat ≤ 1) : b = 0 ∨ b = 1 := by
  rcases Nat.le_one_iff_eq_zero_or_eq_one.mp h with zero | one
  · exact .inl (BitVec.eq_of_toNat_eq zero)
  · exact .inr (BitVec.eq_of_toNat_eq one)

theorem directionOf_isSome {b : Byte} (h : b.toNat ≤ 1) : ∃ d, directionOf b = some d := by
  rcases byte_le_one h with rfl | rfl
  · exact ⟨.up, rfl⟩
  · exact ⟨.down, rfl⟩

theorem optField_facts (x : BitVec 16) : (optField x = none ↔ x = 0) ∧ ∀ n, optField x = some n → n = x.toNat := by
  unfold optField
  split
  · next zero => exact ⟨by simp [BitVec.toNat_eq, zero], nofun⟩
  · next set => exact ⟨by simpa [BitVec.toNat_eq] using set, fun n h => (Option.some.inj h).symm⟩

/-- A request that step 2 reads is in range, and reads the fields. -/
theorem placeAsk_eq_some {f : PlaceFields} {q : PlaceAsk} (h : placeAsk f = some q) : FieldsInRange f ∧ AskOf f q := by
  unfold placeAsk at h
  split at h
  · next d pl direction placement =>
    obtain ⟨⟨least, most, low, high, priority, ordered, inGrid⟩, read⟩ := Option.ite_none_right_eq_some.mp h
    cases read
    obtain ⟨directionByte, _⟩ := directionOf_eq_some direction
    obtain ⟨placementByte, exact_iff, flex_iff⟩ := placementOf_eq_some placement
    refine ⟨⟨directionByte, placementByte, ⟨least, most⟩, ⟨low, high⟩, priority, fun h => ?_, fun h => ?_⟩,
      ⟨rfl, rfl, rfl, rfl, rfl, rfl, direction, placement, fun h => ?_, fun h => ?_, rfl, rfl, ordered⟩⟩
    · cases exact_iff.mpr h
      exact inGrid
    · cases flex_iff.mpr h
      exact ⟨ordered, inGrid⟩
    · cases h
      rfl
    · cases h
      rfl
  · cases h

/-- Fields in range are a request. -/
theorem placeAsk_inRange_isSome {f : PlaceFields} (h : FieldsInRange f) : ∃ q, placeAsk f = some q := by
  obtain ⟨directionByte, placementByte, ⟨least, most⟩, ⟨low, high⟩, priority, exactSpan, flexHi⟩ := h
  obtain ⟨d, direction⟩ := directionOf_isSome directionByte
  rcases byte_le_one placementByte with zero | one
  · have placement : placementOf f.placement = some .exact := by rw [zero]; rfl
    have inGrid := exactSpan zero
    simp only [placeAsk, direction, placement]
    exact ⟨_, if_pos ⟨least, most, low, high, priority, by omega, inGrid⟩⟩
  · have placement : placementOf f.placement = some .flex := by rw [one]; rfl
    have inGrid := flexHi one
    simp only [placeAsk, direction, placement]
    exact ⟨_, if_pos ⟨least, most, low, high, priority, inGrid⟩⟩

/-! ### Runs of granules in a window -/

/-- Some run of `w` granules of the window lo..hi passes a test at every granule (R60). -/
def RunOf (test : Nat → Prop) (lo hi w : Nat) : Prop := ∃ g, lo ≤ g ∧ g + w ≤ hi + 1 ∧ ∀ x, g ≤ x → x < g + w → test x

theorem hasRun_iff (test : Nat → Bool) (lo hi w : Nat) : hasRun test lo hi w = true ↔ RunOf (fun g => test g = true) lo hi w := by
  simp only [hasRun, List.any_eq_true, List.mem_range, runOk_iff]
  constructor
  · rintro ⟨k, inside, run⟩
    exact ⟨lo + k, by omega, by omega, run⟩
  · rintro ⟨g, first, last, run⟩
    have back : lo + (g - lo) = g := by omega
    exact ⟨g - lo, by omega, back.symm ▸ run⟩

/-! ### Step 4: the deciding rule -/

/-- An enabled rule that matches decides (R56, R57). -/
def Decides (r : AdmissionRule) (q : PlaceAsk) : Prop :=
  r.enabled = true ∧ (r.direction = none ∨ r.direction = some q.direction)
  ∧ q.serviceCode &&& r.codeMask = r.codeValue &&& r.codeMask
  ∧ (q.placement = .exact → r.lo ≤ q.lo ∧ q.hi ≤ r.hi)
  ∧ (q.placement = .flex → ∃ g, q.lo ≤ g ∧ g ≤ q.hi ∧ r.lo ≤ g ∧ g ≤ r.hi)

/-- Two ranges in order overlap when neither lies past the other. -/
theorem ranges_meet {a b c d : Nat} (first : a ≤ b) (second : c ≤ d) : (a ≤ d ∧ c ≤ b) ↔ ∃ g, a ≤ g ∧ g ≤ b ∧ c ≤ g ∧ g ≤ d :=
  ⟨fun _ => ⟨max a c, by omega, by omega, by omega, by omega⟩, fun ⟨_, _, _, _, _⟩ => by omega⟩

theorem decides_iff {r : AdmissionRule} {q : PlaceAsk} (rule : r.lo ≤ r.hi) (request : q.lo ≤ q.hi) :
    (r.enabled && r.matches q) = true ↔ Decides r q := by
  simp only [AdmissionRule.matches, Decides, Bool.and_eq_true, Bool.or_eq_true, Option.isNone_iff_eq_none, decide_eq_true_eq,
    and_assoc]
  cases q.placement with
  | exact => simp
  | flex => simp [← ranges_meet request rule]

section
variable {p : Profile} {t : Tenant} {q : PlaceAsk} {r : AdmissionRule}

/-- The rule of tenant `t`'s block that decides on a request (R56). -/
def decidingRule (p : Profile) (t : Tenant) (q : PlaceAsk) : Option AdmissionRule :=
  (p.ruleBlock t).find? fun r => r.enabled && r.matches q

theorem decidingRule_none (ordered : ∀ r ∈ p.ruleBlock t, r.lo ≤ r.hi) (request : q.lo ≤ q.hi) (silent : ∀ r ∈ p.ruleBlock t, ¬ Decides r q) :
    decidingRule p t q = none :=
  List.find?_eq_none.mpr fun r hr => (decides_iff (ordered r hr) request).not.mpr (silent r hr)

theorem decidingRule_first (ordered : ∀ r ∈ p.ruleBlock t, r.lo ≤ r.hi) (request : q.lo ≤ q.hi) {earlier later : List AdmissionRule}
    (block : p.ruleBlock t = earlier ++ r :: later) (before : ∀ x ∈ earlier, ¬ Decides x q) (decides : Decides r q) :
    decidingRule p t q = some r := by
  have inBlock (x : AdmissionRule) (hx : x ∈ earlier ++ r :: later) : x.lo ≤ x.hi := ordered x (block ▸ hx)
  refine List.find?_eq_some_iff_append.mpr ⟨(decides_iff (inBlock r (by simp)) request).mpr decides, earlier, later, block,
    fun x hx => ?_⟩
  rw [Bool.not_eq_true', ← Bool.not_eq_true]
  exact (decides_iff (inBlock x (List.mem_append_left _ hx)) request).not.mpr (before x hx)

theorem applyRules_noRule (h : decidingRule p t q = none) : applyRules p t q = .error .noRule := by
  unfold decidingRule at h
  rw [applyRules, h]

theorem applyRules_deny (h : decidingRule p t q = some r) (deny : r.action = .deny) : applyRules p t q = .error .denied := by
  unfold decidingRule at h
  simp only [applyRules, h, deny]

theorem applyRules_allow (h : decidingRule p t q = some r) (allow : r.action = .allow) : applyRules p t q = reshape p t r q := by
  unfold decidingRule at h
  simp only [applyRules, h, allow]

theorem reshape_short (short : 0 < r.minWidth ∧ q.width < r.minWidth) : reshape p t r q = .error .short := if_pos short

theorem reshape_badSpan (wide : ¬ (0 < r.minWidth ∧ q.width < r.minWidth)) (misfit : ¬ reshapedFits p r (reshaped t r q) = true) :
    reshape p t r q = .error .badSpan := (if_neg wide).trans (if_neg misfit)

theorem reshape_ok (wide : ¬ (0 < r.minWidth ∧ q.width < r.minWidth)) (fits : reshapedFits p r (reshaped t r q) = true) :
    reshape p t r q = .ok (reshaped t r q) := (if_neg wide).trans (if_pos fits)

theorem reshaped_windowLo : (reshaped t r q).windowLo = if q.placement = .exact then q.lo else max q.lo r.lo := by
  cases h : q.placement <;> simp [reshaped, h]

theorem reshaped_windowHi : (reshaped t r q).windowHi
    = if q.placement = .exact then q.lo + (reshaped t r q).width - 1 else min q.hi r.hi := by
  cases h : q.placement <;> simp [reshaped, h]

theorem reshaped_positive (h : 1 ≤ q.width) : 1 ≤ (reshaped t r q).width := by
  simp only [reshaped]
  split
  · assumption
  · exact h

/-- An EXACT request's window is its span, as reshaped. -/
theorem reshaped_span (h : 1 ≤ q.width) (isExact : (reshaped t r q).placement = .exact) :
    (reshaped t r q).windowHi + 1 = (reshaped t r q).windowLo + (reshaped t r q).width := by
  have placed : q.placement = .exact := isExact
  have positive : 1 ≤ (reshaped t r q).width := reshaped_positive h
  rw [reshaped_windowLo, reshaped_windowHi, if_pos placed, if_pos placed]
  omega

theorem reshapedFits_iff (h : 1 ≤ q.width) : reshapedFits p r (reshaped t r q) = true ↔
    (q.placement = .exact → r.lo ≤ (reshaped t r q).windowLo ∧ (reshaped t r q).windowHi ≤ r.hi
      ∧ p.inDirection q.direction (reshaped t r q).windowLo (reshaped t r q).windowHi = true)
    ∧ (q.placement = .flex → (reshaped t r q).width ≤ (reshaped t r q).windowHi + 1 - (reshaped t r q).windowLo) := by
  have placed : (reshaped t r q).placement = q.placement := rfl
  have directed : (reshaped t r q).direction = q.direction := rfl
  have positive : 1 ≤ (reshaped t r q).width := reshaped_positive h
  simp only [reshapedFits, placed, directed]
  cases q.placement with
  | exact => simp [and_assoc]
  | flex =>
    simp only [decide_eq_true_eq, reduceCtorEq, false_implies, true_and, true_implies]
    omega

end

/-! ### Step 5: the tenant's rights -/

/-- Tenant `t` may place at a granule: REQUEST or ANCHOR (R4, R59). -/
def Rights (p : Profile) (t : Tenant) (g : Nat) : Prop := p.accessAt t g = .request ∨ p.accessAt t g = .anchor

theorem mayPlace_iff (a : Access) : a.mayPlace = true ↔ a = .request ∨ a = .anchor := by
  cases a <;> simp [Access.mayPlace]

theorem permitted_iff (p : Profile) (t : Tenant) (g : Nat) : p.permitted t g = true ↔ Rights p t g ∧ p.openAt g = true := by
  rw [Profile.permitted, Bool.and_eq_true, mayPlace_iff, and_comm, Rights]

theorem hasRun_span (test : Nat → Bool) {lo hi w : Nat} (span : hi + 1 = lo + w) : hasRun test lo hi w = runOk test lo w := by
  have one : hi + 2 - w - lo = 1 := by omega
  simp [hasRun, one]

theorem runOk_and (test test' : Nat → Bool) (g w : Nat) :
    runOk (fun x => test x && test' x) g w = (runOk test g w && runOk test' g w) := by
  rw [Bool.eq_iff_iff]
  simp only [Bool.and_eq_true, runOk_iff, imp_and, forall_and]

/-- Step 5 is the same test of EXACT and FLEX: a span is a window with one run in it (R59, R60). -/
theorem regionRefusal_eq (p : Profile) {a : Asked} (span : a.placement = .exact → a.windowHi + 1 = a.windowLo + a.width) :
    regionRefusal p a =
      if hasRun (p.permitted a.tenant) a.windowLo a.windowHi a.width then none
      else if hasRun (fun g => (p.accessAt a.tenant g).mayPlace) a.windowLo a.windowHi a.width then some .closed
      else some .noRight := by
  unfold regionRefusal
  cases placed : a.placement with
  | exact =>
    have both : runOk (p.permitted a.tenant) a.windowLo a.width
        = (runOk p.openAt a.windowLo a.width && runOk (fun g => (p.accessAt a.tenant g).mayPlace) a.windowLo a.width) :=
      runOk_and _ _ _ _
    simp only [hasRun_span _ (span placed), both]
    cases runOk p.openAt a.windowLo a.width <;> cases runOk (fun g => (p.accessAt a.tenant g).mayPlace) a.windowLo a.width <;> rfl
  | flex => rfl

section
variable {p : Profile} {a : Asked}

/-- The window holds a run on which the tenant has its rights (R60). -/
def RightsRun (p : Profile) (a : Asked) : Prop := RunOf (Rights p a.tenant) a.windowLo a.windowHi a.width

/-- The window holds a run on which the tenant has its rights and every granule is open (R60). -/
def OpenRun (p : Profile) (a : Asked) : Prop :=
  RunOf (fun g => Rights p a.tenant g ∧ p.openAt g = true) a.windowLo a.windowHi a.width

theorem rightsRun_iff :
    hasRun (fun g => (p.accessAt a.tenant g).mayPlace) a.windowLo a.windowHi a.width = true ↔ RightsRun p a := by
  simp only [hasRun_iff, mayPlace_iff]
  rfl

theorem openRun_iff : hasRun (p.permitted a.tenant) a.windowLo a.windowHi a.width = true ↔ OpenRun p a := by
  simp only [hasRun_iff, permitted_iff]
  rfl

theorem OpenRun.rightsRun : OpenRun p a → RightsRun p a :=
  fun ⟨g, first, last, run⟩ => ⟨g, first, last, fun x lo hi => (run x lo hi).1⟩

variable (span : a.placement = .exact → a.windowHi + 1 = a.windowLo + a.width)
include span

theorem regionRefusal_noRight (h : ¬ RightsRun p a) : regionRefusal p a = some .noRight := by
  rw [regionRefusal_eq p span, if_neg (openRun_iff.not.mpr (h ∘ OpenRun.rightsRun)), if_neg (rightsRun_iff.not.mpr h)]

theorem regionRefusal_closed (rights : RightsRun p a) (h : ¬ OpenRun p a) : regionRefusal p a = some .closed := by
  rw [regionRefusal_eq p span, if_neg (openRun_iff.not.mpr h), if_pos (rightsRun_iff.mpr rights)]

theorem regionRefusal_none (h : OpenRun p a) : regionRefusal p a = none := by
  rw [regionRefusal_eq p span, if_pos (openRun_iff.mpr h)]

end

theorem anchoredOn_iff (p : Profile) (a : Asked) :
    anchoredOn p a = true ↔ ∀ g, a.windowLo ≤ g → g ≤ a.windowHi → p.accessAt a.tenant g = .anchor := by
  simp only [anchoredOn, runOk_iff, decide_eq_true_eq]
  exact forall_congr' fun g => ⟨fun h lo hi => h lo (by omega), fun h lo hi => h lo (by omega)⟩

/-! ### The steps in order -/

/-- Step 3's two tests (R55). -/
theorem geometryOk_iff (p : Profile) {q : PlaceAsk} (ordered : q.lo ≤ q.hi) :
    geometryOk p q = true ↔ p.inDirection q.direction q.lo q.hi = true ∧ q.width ≤ q.hi + 1 - q.lo := by
  simp only [geometryOk, Bool.and_eq_true, decide_eq_true_eq]
  exact and_congr_right fun _ => by omega

section
variable {p : Profile} {t : Tenant} {f : PlaceFields} {q : PlaceAsk} {a : Asked} {code : ResponseCode}

theorem admission_badField (ask : placeAsk f = none) : admission p t f = .error .badField := by
  simp only [admission, ask]

theorem admission_badSpan (ask : placeAsk f = some q) (geometry : ¬ geometryOk p q = true) : admission p t f = .error .badSpan := by
  simp only [admission, ask, Bool.eq_false_iff.mpr geometry, if_true]

variable (ask : placeAsk f = some q) (geometry : geometryOk p q = true)
include ask geometry

theorem admission_byRules (refused : applyRules p t q = .error code) : admission p t f = .error code := by
  simp [admission, ask, geometry, refused]

theorem admission_byRegion (ruled : applyRules p t q = .ok a) (refused : regionRefusal p a = some code) :
    admission p t f = .error code := by
  simp [admission, ask, geometry, ruled, refused]

theorem admission_ok (ruled : applyRules p t q = .ok a) (rights : regionRefusal p a = none) :
    admission p t f = .ok (q, { a with anchored := anchoredOn p a }) := by
  simp [admission, ask, geometry, ruled, rights]

end

/-- Settles O20: each step refuses or passes on to the next. -/
theorem admissionDecides : Obligations.AdmissionDecides := by
  intro p t f rules inRange
  have inRange_iff : inRange ↔ FieldsInRange f :=
    ⟨fun ⟨direction, placement, least, most, low, high, priority, exactSpan, flexHi⟩ =>
        ⟨direction, placement, ⟨least, most⟩, ⟨low, high⟩, priority, exactSpan, flexHi⟩,
      fun h => ⟨h.direction, h.placement, h.width.1, h.width.2, h.density.1, h.density.2, h.priority, h.exactSpan, h.flexHi⟩⟩
  refine ⟨fun outside => admission_badField ?_, fun inside => ?_, fun q ask => ?_⟩
  · exact Option.eq_none_iff_forall_ne_some.mpr fun q ask => outside (inRange_iff.mpr (placeAsk_eq_some ask).1)
  · obtain ⟨q, ask⟩ := placeAsk_inRange_isSome (inRange_iff.mp inside)
    have reads := (placeAsk_eq_some ask).2
    obtain ⟨_, up_iff⟩ := directionOf_eq_some reads.direction
    obtain ⟨_, exact_iff, _⟩ := placementOf_eq_some reads.placement
    obtain ⟨noHold, hold⟩ := reads.hold ▸ optField_facts f.hold
    obtain ⟨noLimit, waitLimit⟩ := reads.waitLimit ▸ optField_facts f.waitLimit
    exact ⟨q, ask, reads.lo, reads.width, reads.density, reads.priority, reads.serviceCode, reads.nowait,
      up_iff, exact_iff, reads.exactHi, reads.flexHi, noHold, hold, noLimit, waitLimit⟩
  obtain ⟨_, reads⟩ := placeAsk_eq_some ask
  have positive : 1 ≤ q.width := (placeAsk_inRange ask).width.1
  -- Step 3.
  have geometry_iff := geometryOk_iff p reads.ordered
  refine ⟨fun out => admission_badSpan ask (geometry_iff.not.mpr out), fun inDirection wide => ?_⟩
  have geometry := geometry_iff.mpr ⟨inDirection, wide⟩
  -- Step 4: the rule that decides, then its effects.
  refine ⟨fun silent => admission_byRules ask geometry (applyRules_noRule (decidingRule_none rules reads.ordered silent)), ?_⟩
  intro earlier r later block before decides
  have first := decidingRule_first rules reads.ordered block before decides
  refine ⟨fun deny => admission_byRules ask geometry (applyRules_deny first deny), fun allow => ?_⟩
  have ruled := applyRules_allow first allow
  intro w lo hi rights
  have windowLo : (reshaped t r q).windowLo = lo := reshaped_windowLo
  have windowHi : (reshaped t r q).windowHi = hi := reshaped_windowHi
  have fits_iff := reshapedFits_iff (p := p) (t := t) (r := r) positive
  have span := reshaped_span (t := t) (r := r) positive
  have rightsRun : RightsRun p (reshaped t r q) = RunOf rights lo hi w := by rw [← windowLo, ← windowHi]; rfl
  have openRun : OpenRun p (reshaped t r q) = RunOf (fun g => rights g ∧ p.openAt g = true) lo hi w := by
    rw [← windowLo, ← windowHi]; rfl
  rw [windowLo, windowHi] at fits_iff
  refine ⟨fun short => admission_byRules ask geometry (ruled.trans (reshape_short short)), fun enough => ?_⟩
  refine ⟨fun misfit => admission_byRules ask geometry (ruled.trans (reshape_badSpan enough (fits_iff.not.mpr misfit))),
    fun holds => ?_⟩
  have passed := ruled.trans (reshape_ok enough (fits_iff.mpr holds))
  -- Step 5.
  refine ⟨fun no => admission_byRegion ask geometry passed (regionRefusal_noRight span (rightsRun ▸ no)),
    fun yes shut => admission_byRegion ask geometry passed (regionRefusal_closed span (rightsRun ▸ yes) (openRun ▸ shut)),
    fun opened => ⟨_, admission_ok ask geometry passed (regionRefusal_none span (openRun ▸ opened)), rfl, rfl, rfl, windowLo,
      windowHi, rfl, rfl, rfl, rfl, rfl, rfl, rfl, ?_⟩⟩
  rw [← windowLo, ← windowHi]
  exact anchoredOn_iff p (reshaped t r q)

end Sys2Proof.Proofs
end

section
/-! PROOFS. The placement of a request and the density it is granted (R66 to R70). -/

namespace Sys2Proof.Proofs

open Machine Safety Laws

/-! ### Candidates -/

theorem mem_occupied_iff {s : State} {x : Asked × Placed} : x ∈ s.occupied ↔ ∃ e, (s.life e).occupies? = some x := by
  refine ⟨fun mem => ?_, fun ⟨_, h⟩ => mem_occupied h⟩
  obtain ⟨entry, mem, occupies⟩ := List.mem_filterMap.mp mem
  obtain ⟨i, hi, rfl⟩ := Vector.getElem_of_mem (Vector.mem_toList_iff.mp mem)
  exact ⟨⟨i, hi⟩, occupies⟩

/-- The runs of `w` granules from `a` and of `v` from `c` share no granule, and where a guard is asked for between them at least that
many granules lie between any two of theirs (R1): said of the ends, as of all granules. -/
theorem gapAtLeast_iff {a w c v : Nat} (hw : 1 ≤ w) (hv : 1 ≤ v) (guarded : Prop) [Decidable guarded] (guard : Nat) :
    gapAtLeast (if guarded then guard else 0) a (a + w - 1) c (c + v - 1) = true
      ↔ ∀ x y, a ≤ x → x < a + w → c ≤ y → y < c + v →
          x ≠ y ∧ (guarded → (x < y → guard ≤ y - x - 1) ∧ (y < x → guard ≤ x - y - 1)) := by
  simp only [gapAtLeast, Bool.or_eq_true, decide_eq_true_eq]
  constructor
  · intro apart x y hax hxa hcy hyc
    split at apart
    · exact ⟨by omega, fun _ => ⟨fun _ => by omega, fun _ => by omega⟩⟩
    · next free => exact ⟨by omega, fun h => absurd h free⟩
  · intro clear
    have disjoint : a + w ≤ c ∨ c + v ≤ a := by
      by_contra overlap
      exact (clear (max a c) (max a c) (by omega) (by omega) (by omega) (by omega)).1 rfl
    split
    · next asked =>
      rcases disjoint with below | above
      · have := ((clear (a + w - 1) c (by omega) (by omega) (by omega) (by omega)).2 asked).1
        omega
      · have := ((clear a (c + v - 1) (by omega) (by omega) (by omega) (by omega)).2 asked).2
        omega
    · omega

theorem candidate_iff (p : Profile) (s : State) (a : Asked) (g : Nat) : candidate p s a g = true ↔ Candidate p s a g := by
  refine ⟨candidate_of_eq_true, fun ⟨window, clear, ground⟩ => ?_⟩
  simp only [candidate, Bool.and_eq_true, decide_eq_true_eq, List.all_eq_true, runOk_iff]
  exact ⟨⟨window, clear⟩, ground⟩

/-- What a span of the plan asks of a span placed at `g` (R66), granule by granule. -/
theorem clearOf_iff {p : Profile} {a b : Asked} {q : Placed} {g : Nat} (ha : 1 ≤ a.width) (hb : 1 ≤ b.width) :
    clearOf p a g (b, q) = true ↔ ∀ x y, g ≤ x → x < g + a.width → q.first ≤ y → y < q.first + b.width →
      x ≠ y ∧ (b.tenant ≠ a.tenant → b.direction = a.direction →
        let guard := p.guards.get (p.tenant a.tenant).cls (p.tenant b.tenant).cls
        (x < y → guard ≤ y - x - 1) ∧ (y < x → guard ≤ x - y - 1)) := by
  simp only [clearOf, gapAtLeast_iff ha hb, and_imp]

/-! ### The lowest of the candidates -/

/-- The first that passes a test among the granules `lo`, `lo + 1`, …, `n` of them, is the lowest there that does. -/
theorem find?_window {test : Nat → Bool} {lo n : Nat} (inside : ∀ g, test g = true → lo ≤ g ∧ g < lo + n) (g : Nat) :
    ((List.range n).map (lo + ·)).find? test = some g ↔ test g = true ∧ ∀ x, x < g → test x = false := by
  rw [← List.range'_eq_map_range, List.find?_range'_eq_some]
  constructor
  · rintro ⟨passes, _, before⟩
    refine ⟨passes, fun x hx => Bool.eq_false_iff.mpr fun h => ?_⟩
    simpa [h] using before x (inside x h).1 hx
  · rintro ⟨passes, before⟩
    exact ⟨passes, List.mem_range'_1.mpr (inside g passes), fun x _ hx => by simp [before x hx]⟩

theorem placement_flex {p : Profile} {s : State} {a : Asked} (flex : a.placement = .flex) (g : Nat) :
    placement p s a = some g ↔ candidate p s a g = true ∧ ∀ x, x < g → candidate p s a x = false := by
  simp only [placement, flex]
  refine find?_window (fun g h => ?_) g
  obtain ⟨lo, hi⟩ := (candidate_of_eq_true h).inWindow
  omega

theorem placement_flex_none {p : Profile} {s : State} {a : Asked} (flex : a.placement = .flex) :
    placement p s a = none ↔ ∀ g, candidate p s a g = false := by
  rw [Option.eq_none_iff_forall_ne_some]
  constructor
  · intro nowhere g
    induction g using Nat.strong_induction_on with
    | _ g before => exact Bool.eq_false_iff.mpr fun h => nowhere g ((placement_flex flex g).mpr ⟨h, before⟩)
  · intro nowhere g placed
    have passes := ((placement_flex flex g).mp placed).1
    rw [nowhere g] at passes
    cases passes

/-- Settles O25. -/
theorem placementIsLowestCandidate : Obligations.PlacementIsLowestCandidate := by
  intro p s a width widths
  refine ⟨fun g => ?_, fun isExact => ?_, fun flex => ⟨placement_flex flex, placement_flex_none flex⟩⟩
  · have clear : (∀ x ∈ s.occupied, clearOf p a g x = true)
        ↔ ∀ e b q, (s.life e).occupies? = some (b, q) → clearOf p a g (b, q) = true :=
      ⟨fun h e b q occupies => h _ (mem_occupied occupies), fun h x mem =>
        (mem_occupied_iff.mp mem).elim fun e occupies => h e x.1 x.2 occupies⟩
    rw [candidate_iff]
    constructor
    · rintro ⟨⟨lo, hi⟩, apart, ground⟩
      exact ⟨lo, hi, ground, fun e b q occupies =>
        (clearOf_iff width (widths e b q occupies)).mp (clear.mp apart e b q occupies)⟩
    · rintro ⟨lo, hi, ground, apart⟩
      exact ⟨⟨lo, hi⟩, clear.mpr fun e b q occupies =>
        (clearOf_iff width (widths e b q occupies)).mpr (apart e b q occupies), ground⟩
  · simp only [placement, isExact]

/-! ### Density, weight and load -/

/-- The tilt at a granule of the DOWN range (R68). -/
def tiltAt (p : Profile) (g : Nat) : Nat := p.tiltSpan * (g - p.dsLo) / (1199 - p.dsLo)

theorem densityLimit_down (p : Profile) (g : Nat) : densityLimit p .down g = min 6 (p.dsBaseLim + (tiltAt p g : Int)) := rfl

/-- On the DOWN range the tilt is the quotient of R68 over the integers. -/
theorem tiltAt_cast {p : Profile} {g : Nat} (legal : LegalProfile p) (inside : p.dsLo ≤ g) :
    (tiltAt p g : Int) = (p.tiltSpan : Int) * ((g : Int) - p.dsLo) / (1199 - (p.dsLo : Int)) := by
  have split := legal.split.2
  rw [tiltAt, Int.natCast_ediv, Int.natCast_mul, Int.natCast_sub inside, Int.natCast_sub (by omega)]
  rfl

theorem tiltAt_mono (p : Profile) {g g' : Nat} (h : g ≤ g') : tiltAt p g ≤ tiltAt p g' :=
  Nat.div_le_div_right (Nat.mul_le_mul_left _ (Nat.sub_le_sub_right h _))

theorem densityLimit_down_mono (p : Profile) {g g' : Nat} (h : g ≤ g') : densityLimit p .down g ≤ densityLimit p .down g' := by
  have := tiltAt_mono p h
  rw [densityLimit_down, densityLimit_down]
  omega

/-- The granted density is one of the three that bound it (R69). -/
theorem grantedDensity_attained (p : Profile) (a : Asked) (g : Nat) : grantedDensity p a g = a.density
    ∨ grantedDensity p a g = densityLimit p a.direction g ∨ a.cap = some (grantedDensity p a g) := by
  unfold grantedDensity
  cases a.cap with
  | none => exact (min_choice _ _).imp_right .inl
  | some c =>
    rcases min_choice (min a.density (densityLimit p a.direction g)) c with h | h
    · simp only [h]
      exact (min_choice _ _).imp_right .inl
    · simp only [h, or_true]

/-- The weight of a density is the whole number nearest to 1,024 × 10^(d/10), for each density of the range (R70). -/
theorem weight_nearest (d : Int) (low : -8 ≤ d) (high : d ≤ 6) : (2 * weight d - 1) ^ 10 * 10 ^ 8 ≤ 2048 ^ 10 * 10 ^ (d + 8).toNat
    ∧ 2048 ^ 10 * 10 ^ (d + 8).toNat < (2 * weight d + 1) ^ 10 * 10 ^ 8 := by
  have table : ∀ n : Fin 15, (2 * weight ((n.val : Int) - 8) - 1) ^ 10 * 10 ^ 8 ≤ 2048 ^ 10 * 10 ^ n.val
      ∧ 2048 ^ 10 * 10 ^ n.val < (2 * weight ((n.val : Int) - 8) + 1) ^ 10 * 10 ^ 8 := by decide
  have entry := table ⟨(d + 8).toNat, by omega⟩
  have same : (((d + 8).toNat : Nat) : Int) - 8 = d := by omega
  rwa [same] at entry

/-- Settles O26. -/
theorem densityAndLoad : Obligations.DensityAndLoad := by
  intro p legal
  refine ⟨fun _ => rfl, fun g lo hi => ⟨?_, densityLimit_least legal .down g, fun g' h _ => densityLimit_down_mono p h⟩,
    fun a g => ?_, weight_nearest⟩
  · rw [densityLimit_down, tiltAt_cast legal lo]
  · have granted := grantedDensity_granted p a g
    exact ⟨granted.request, granted.limit, granted.cap, grantedDensity_attained p a g, rfl, rfl, decide_eq_true_iff, rfl⟩

end Sys2Proof.Proofs
end

section
/-! PROOFS. The sweep step in hand completes (R75, R82 to R85). -/

namespace Sys2Proof.Proofs

open Machine Safety Laws

/-- The position moves past the entry it stands on, and the step in hand is over: the sweep stands on the follower, or the end of
the list is taken (R83, R84). -/
theorem settled_movedPast {e : EntryIx} {again : Bool} {s : State} (position : s.sweep = .running (.entry e) again) (list : List EntryIx) :
    (s.sweep.movedPast e s.waitList).settled false list = sweepOn again list (follower e s.waitList) := by
  simp only [position, Sweep.movedPast, if_true]
  cases follower e s.waitList with
  | some x => rfl
  | none => cases again <;> cases list <;> rfl

theorem endStep_advance {e : EntryIx} {again : Bool} {s : State} (position : s.sweep = .running (.entry e) again) :
    endStep (advance e s) = { s with sweep := sweepOn again s.waitList (follower e s.waitList), inHand := none } := by
  simp only [endStep, advance, settled_movedPast position]

/-- An entry that leaves the list while the step is in hand moves the position, and END waits for the step's end (R79, R84). -/
theorem endStep_leaveList {e : EntryIx} {again : Bool} {s : State} (stepping : s.stepInHand = true)
    (position : s.sweep = .running (.entry e) again) : endStep (leaveList e s) = { s with
      waitList := s.waitList.erase e, sweep := sweepOn again (s.waitList.erase e) (follower e s.waitList), inHand := none } := by
  have waits : (s.sweep.movedPast e s.waitList).settled true (s.waitList.erase e) = s.sweep.movedPast e s.waitList := by
    cases s.sweep.movedPast e s.waitList with
    | idle => rfl
    | running pos => cases pos <;> rfl
  simp only [endStep, leaveList, stepping, waits, settled_movedPast position]

theorem endStep_issue (t : Tenant) (body : NoticeBody) (s : State) : endStep (issue t body s) = issue t body (endStep s) := rfl

theorem endStep_listEnd {again : Bool} {s : State} (position : s.sweep = .running .listEnd again) :
    endStep s = { s with sweep := sweepOn again s.waitList none, inHand := none } := by
  have settled : s.sweep.settled false s.waitList = sweepOn again s.waitList none := by
    rw [position]
    cases again <;> cases s.waitList <;> rfl
  rw [endStep, settled]

section
variable {s : State} {p : Profile} {e : EntryIx} {a : Asked} {r : PendingReason} {w : Option Nat}

theorem stepOn_paused (waits : s.life e = .pending a r w) (paused : (s.port a.tenant).mode = .paused) :
    stepOn p e s = advance e s := by
  simp only [stepOn, waits, if_pos paused]

theorem stepOn_fails {r' : PendingReason} (waits : s.life e = .pending a r w) (taken : (s.port a.tenant).mode ≠ .paused)
    (fails : FitFails p s a r') : stepOn p e s = advance e (setLife e (.pending a r' w) s) := by
  simp only [stepOn, waits, if_neg taken, fitChecks_error p s a r' fails]

theorem stepOn_fits {g : Nat} (waits : s.life e = .pending a r w) (taken : (s.port a.tenant).mode ≠ .paused)
    (fits : FitsAt p s a g) : stepOn p e s = issue a.tenant (.granted (grantInfo e (s.entry e).generation a (placedSpan p a g)))
      (leaveList e (stage p e a (placedSpan p a g) s)) := by
  simp only [stepOn, waits, if_neg taken, fitChecks_ok p s a g fits]

theorem sweepStep_entry {again : Bool} (running : s.device = .running p) (inHand : s.inHand = some .sweep)
    (position : s.sweep = .running (.entry e) again) : sweepStep s = endStep (stepOn p e s) := by
  simp only [sweepStep, inHand, State.profile?, running, position]

theorem sweepStep_listEnd {again : Bool} (running : s.device = .running p) (inHand : s.inHand = some .sweep)
    (position : s.sweep = .running .listEnd again) : sweepStep s = endStep s := by
  simp only [sweepStep, inHand, State.profile?, running, position]

theorem sweepStep_idle (h : s.inHand ≠ some .sweep) : sweepStep s = s := by
  unfold sweepStep
  split
  · next inHand _ => exact absurd inHand h
  · rfl

theorem exec_sweepStep {u : State} (settled : Settled s) (h : sweepStep s = u) : exec .sweepStep s = .next u := by
  rw [exec, execSweepStep, settleDue_settled s settled, h]

end

/-- Settles O33. -/
theorem sweepStepOutcomes : Obligations.SweepStepOutcomes := by
  refine ⟨fun s p e again a r w stepping => ?_, fun s p again settled running inHand position => ?_, fun s settled idle => ?_⟩
  · obtain ⟨settled, running, inHand, position, waits⟩ := stepping
    have step {u : State} (h : endStep (stepOn p e s) = u) : exec .sweepStep s = .next u :=
      exec_sweepStep settled ((sweepStep_entry running inHand position).trans h)
    refine ⟨fun paused => step ?_, fun taken => ⟨fun r' fails => step ?_, fun g fits => step ?_⟩⟩
    · rw [stepOn_paused waits paused, endStep_advance position]
    · rw [stepOn_fails waits taken fails]
      exact endStep_advance (s := setLife e _ s) position
    · have stepInHand : s.stepInHand = true := decide_eq_true inHand
      rw [stepOn_fits waits taken fits, endStep_issue, endStep_leaveList (s := stage p e a _ s) stepInHand position]
      rfl
  · exact exec_sweepStep settled ((sweepStep_listEnd running inHand position).trans (endStep_listEnd position))
  · exact exec_sweepStep settled (sweepStep_idle idle)

end Sys2Proof.Proofs
end

section
/-! PROOFS. The Pending List by itself: sweep requests, departures and insertions (R77 to R81, R84). -/

namespace Sys2Proof.Proofs

open Machine Safety Laws

/-! ### Departures -/

/-- An entry leaves a list that holds it once (R79). -/
theorem leaveList_waitList {e : EntryIx} {before after : List EntryIx} {s : State} (first : e ∉ before)
    (list : s.waitList = before ++ e :: after) : (leaveList e s).waitList = before ++ after := by
  rw [← erase_behind first after, ← list]
  rfl

/-- A departure is told by the list and the sweep that it leaves. -/
theorem leaveList_eq {e : EntryIx} {list : List EntryIx} {sweep : Sweep} {s : State} (left : (leaveList e s).waitList = list)
    (moved : (leaveList e s).sweep = sweep) : leaveList e s = { s with waitList := list, sweep := sweep } := by
  subst left moved
  rfl

/-- A sweep that is IDLE or stands on another entry is left alone. -/
theorem leaveList_sweep_elsewhere {e : EntryIx} {s : State} (other : ∀ again, s.sweep ≠ .running (.entry e) again)
    (notEnd : ∀ again, s.sweep ≠ .running .listEnd again) : (leaveList e s).sweep = s.sweep := by
  cases sweep : s.sweep with
  | idle => exact leaveAll_idle [e] sweep
  | running pos again =>
    cases pos with
    | listEnd => exact absurd sweep (notEnd again)
    | entry x =>
      have ne : x ≠ e := fun same => other again (same ▸ sweep)
      exact leaveAll_elsewhere (es := [e]) (by simpa using ne) sweep

/-! ### Insertions -/

/-- An insertion into a list in rank order splits it where the worse ranks begin (R78). -/
theorem insertAfterLast_ranked {rank : EntryIx → Nat} {ahead : EntryIx → Bool} {e : EntryIx} {l : List EntryIx}
    (ahead_iff : ∀ x ∈ l, ahead x = true ↔ rank x ≤ rank e) (sorted : l.Pairwise fun x y => rank x ≤ rank y) :
    ∃ before after, l = before ++ after ∧ insertAfterLast ahead e l = before ++ e :: after
      ∧ (∀ x ∈ before, rank x ≤ rank e) ∧ ∀ x ∈ after, rank e < rank x := by
  obtain ⟨before, after, split, inserted, behind, last⟩ := insertAfterLast_split ahead e l
  subst split
  refine ⟨before, after, rfl, inserted, ?_, fun x hx => ?_⟩
  · rcases List.eq_nil_or_concat before with rfl | ⟨init, z, rfl⟩
    · nofun
    rw [List.concat_eq_append] at *
    have least : rank z ≤ rank e := (ahead_iff z (by simp)).mp (last z (by simp))
    obtain ⟨sorted, _, _⟩ := List.pairwise_append.mp sorted
    obtain ⟨_, _, best⟩ := List.pairwise_append.mp sorted
    intro x hx
    rcases List.mem_append.mp hx with hx | hx
    · exact (best x hx z (by simp)).trans least
    · exact List.mem_singleton.mp hx ▸ least
  · have worse := (ahead_iff x (by simp [hx])).not.mp (by simp [behind x hx])
    exact Nat.not_le.mp worse

/-- An insertion keeps a list in rank order (R77, R78). -/
theorem insertAfterLast_pairwise {rank : EntryIx → Nat} {ahead : EntryIx → Bool} {e : EntryIx} {l : List EntryIx}
    (ahead_iff : ∀ x ∈ l, ahead x = true ↔ rank x ≤ rank e) (sorted : l.Pairwise fun x y => rank x ≤ rank y) :
    (insertAfterLast ahead e l).Pairwise fun x y => rank x ≤ rank y := by
  obtain ⟨before, after, rfl, inserted, better, worse⟩ := insertAfterLast_ranked ahead_iff sorted
  obtain ⟨sortedBefore, sortedAfter, apart⟩ := List.pairwise_append.mp sorted
  rw [inserted, List.pairwise_append, List.pairwise_cons]
  refine ⟨sortedBefore, ⟨fun x hx => (worse x hx).le, sortedAfter⟩, fun x hx y hy => ?_⟩
  rcases List.mem_cons.mp hy with rfl | hy
  · exact better x hx
  · exact apart x hx y hy

theorem insertAfterLast_perm (ahead : EntryIx → Bool) (e : EntryIx) (l : List EntryIx) :
    (insertAfterLast ahead e l).Perm (e :: l) := by
  obtain ⟨before, after, rfl, inserted, _⟩ := insertAfterLast_split ahead e l
  rw [inserted]
  exact List.perm_middle

/-- Settles O34, from where a departure leaves list and sweep and where an insertion splits a list in rank order. -/
theorem listAndSweepRequests : Obligations.ListAndSweepRequests := by
  refine ⟨fun s => ⟨fun pos again running => ?_, fun idle empty => ?_, fun x rest idle list => ?_⟩,
    fun s before after e list first => ?_, fun rank e l sorted => ?_⟩
  · rw [requestSweep, running]
    rfl
  · rw [requestSweep, idle, empty, Sweep.requested, ← idle, ← empty]
  · rw [requestSweep, idle, list]
    rfl
  · have left := leaveList_waitList first list
    refine ⟨fun again position => ?_, fun other notEnd => ?_, fun again atEnd stepping => ?_⟩
    · have moved := leaveList_sweep first list position
      exact ⟨fun free => leaveList_eq left (moved.trans (if_neg (by simpa [State.stepInHand]))),
        fun stepping => leaveList_eq left (moved.trans (if_pos (by simpa [State.stepInHand])))⟩
    · exact leaveList_eq left (leaveList_sweep_elsewhere other notEnd)
    · have stands := leaveAll_atEnd [e] (decide_eq_true stepping : s.stepInHand = true) atEnd
      exact leaveList_eq left (stands.trans atEnd.symm)
  · have ahead_iff : ∀ x ∈ l, decide (rank x ≤ rank e) = true ↔ rank x ≤ rank e := fun _ _ => decide_eq_true_iff
    obtain ⟨before, after, split, inserted, _, worse⟩ := insertAfterLast_ranked ahead_iff sorted
    exact ⟨insertAfterLast_pairwise ahead_iff sorted, before, after, split, inserted, worse⟩

end Sys2Proof.Proofs
end

section
/-! PROOFS. How the Pending List's invariant is kept: where the sweep may stand beside a list, and what a departure, an insertion and
a change of lives make of `ListOk` (R76 to R84). -/

namespace Sys2Proof.Proofs

open Machine Safety Laws

/-! ### The sweep beside a list -/

/-- Where a sweep may stand while `list` waits: on an entry of it, at END only while a step is in hand, and IDLE only while none is
(R80, R84). -/
def SweepFits (list : List EntryIx) (stepInHand : Bool) : Sweep → Prop
  | .idle => stepInHand = false
  | .running (.entry e) _ => e ∈ list
  | .running .listEnd _ => stepInHand = true

section
variable {list : List EntryIx} {stepInHand : Bool} {sweep : Sweep}

theorem SweepFits.idle (h : SweepFits list stepInHand sweep) (here : sweep = .idle) : stepInHand = false := by
  subst here
  exact h

theorem SweepFits.position (h : SweepFits list stepInHand sweep) (e : EntryIx) (again : Bool)
    (here : sweep = .running (.entry e) again) : e ∈ list := by
  subst here
  exact h

theorem SweepFits.requested (h : SweepFits list stepInHand sweep) : SweepFits list stepInHand (sweep.requested list) := by
  cases sweep with
  | running pos again => cases pos <;> exact h
  | idle =>
    cases list with
    | nil => exact h
    | cons x rest => exact List.mem_cons_self

theorem endOfList_fits (again : Bool) (list : List EntryIx) : SweepFits list false (endOfList again list) := by
  cases again with
  | false => rfl
  | true =>
    cases list with
    | nil => rfl
    | cons x rest => exact List.mem_cons_self

/-- Taking the end of the list where no step is in hand leaves no sweep at END (R84). -/
theorem settled_fits (idle : sweep = .idle → stepInHand = false)
    (position : ∀ e again, sweep = .running (.entry e) again → e ∈ list) :
    SweepFits list stepInHand (sweep.settled stepInHand list) := by
  cases sweep with
  | idle => exact idle rfl
  | running pos again =>
    cases pos with
    | entry e => exact position e again rfl
    | listEnd =>
      cases stepInHand with
      | true => rfl
      | false => exact endOfList_fits again list

theorem follower_mem {e x : EntryIx} (mem : e ∈ list) (h : follower e list = some x) : x ∈ list.erase e := by
  obtain ⟨before, after, rfl, first⟩ := List.eq_append_cons_of_mem mem
  rw [follower_append e before after first] at h
  rw [erase_behind first]
  exact List.mem_append_right before (List.mem_of_mem_head? h)

theorem movedPast_idle {e : EntryIx} (h : sweep.movedPast e list = .idle) : sweep = .idle := by
  cases sweep with
  | idle => rfl
  | running pos again =>
    cases pos with
    | listEnd => cases h
    | entry x =>
      rw [Sweep.movedPast] at h
      split at h <;> cases h

/-- A position that moves past an entry stands on another one of the list (R79, R83). -/
theorem movedPast_position (position : ∀ e again, sweep = .running (.entry e) again → e ∈ list) {e x : EntryIx} {again : Bool}
    (h : sweep.movedPast e list = .running (.entry x) again) : x ∈ list.erase e := by
  cases sweep with
  | idle => cases h
  | running pos before =>
    cases pos with
    | listEnd => cases h
    | entry y =>
      have mem := position y before rfl
      rw [Sweep.movedPast] at h
      split at h
      · next same =>
        subst same
        cases next : follower y list with
        | none =>
          rw [next] at h
          cases h
        | some z =>
          rw [next] at h
          cases h
          exact follower_mem mem next
      · next other =>
        cases h
        exact (List.mem_erase_of_ne other).mpr mem

/-- A departure leaves the sweep on an entry that stays, at END or IDLE (R79, R84). -/
theorem SweepFits.left (h : SweepFits list stepInHand sweep) (e : EntryIx) :
    SweepFits (list.erase e) stepInHand ((sweep.movedPast e list).settled stepInHand (list.erase e)) :=
  settled_fits (fun here => h.idle (movedPast_idle here)) fun _ _ here => movedPast_position h.position here

/-- While a step is in hand the position may move past an entry that stays (R83). -/
theorem SweepFits.advanced (h : SweepFits list true sweep) (e : EntryIx) : SweepFits list true (sweep.movedPast e list) := by
  cases moved : sweep.movedPast e list with
  | idle => exact h.idle (movedPast_idle moved)
  | running pos again =>
    cases pos with
    | listEnd => rfl
    | entry x => exact List.mem_of_mem_erase (movedPast_position h.position moved)

end

theorem leaveAll_fits (es : List EntryIx) {s : State} (h : SweepFits s.waitList s.stepInHand s.sweep) :
    SweepFits (leaveAll es s).waitList s.stepInHand (leaveAll es s).sweep := by
  induction es generalizing s with
  | nil => exact h
  | cons e es ih =>
    rw [leaveAll_cons]
    exact ih (s := leaveList e s) (h.left e)

/-! ### The requests that wait -/

/-- The request of a PENDING entry. -/
def waitingAsk : Life → Option Asked
  | .pending a _ _ => some a
  | .free | .staged _ _ | .adding _ _ _ _ _ | .live _ _ _ | .retiring _ _ _ | .dropping _ _ _ _ | .cooling _ _ _ => none

theorem isPending_eq (l : Life) : isPending l = (waitingAsk l).isSome := by cases l <;> rfl

theorem asked_of_waiting {l : Life} {a : Asked} (h : waitingAsk l = some a) : l.asked? = some a := by
  cases l with
  | pending => exact h
  | _ => cases h

theorem rankAt_waiting {s : State} {e : EntryIx} {a : Asked} (h : waitingAsk (s.life e) = some a) (p : Profile) :
    rankAt p s e = rankOf p.rankMode a := by
  rw [rankAt, asked_of_waiting h]
  rfl

theorem waits_of_listOk {s : State} (h : ListOk s) {e : EntryIx} (mem : e ∈ s.waitList) : ∃ a, waitingAsk (s.life e) = some a :=
  Option.isSome_iff_exists.mp (isPending_eq _ ▸ (h.pending e).mp mem)

theorem fits_of_listOk {s : State} (h : ListOk s) : SweepFits s.waitList s.stepInHand s.sweep := by
  cases sweep : s.sweep with
  | idle => exact decide_eq_false (h.idle sweep)
  | running pos again =>
    cases pos with
    | entry e => exact h.position e again sweep
    | listEnd => exact decide_eq_true (h.atEnd again sweep)

/-! ### Departures, changes of lives and insertions -/

/-- Some entries leave the list and wait no more, and every other waits as it did: the list is well kept when the sweep stands
beside it. -/
theorem listOk_without {s u : State} (h : ListOk s) (own : EntryIx → Bool) (device : u.device = s.device)
    (list : u.waitList = s.waitList.filter fun x => !own x) (fits : SweepFits u.waitList u.stepInHand u.sweep)
    (gone : ∀ e, own e = true → waitingAsk (u.life e) = none)
    (stays : ∀ e, own e = false → waitingAsk (u.life e) = waitingAsk (s.life e)) : ListOk u where
  once := list ▸ h.once.filter _
  pending e := by
    rw [list, List.mem_filter, h.pending, isPending_eq, isPending_eq]
    cases mine : own e with
    | true => simp [gone e mine]
    | false => simp [stays e mine]
  bounded := by
    rw [list]
    exact (List.length_filter_le _ _).trans h.bounded
  ranked p hp := by
    rw [list]
    have same {x : EntryIx} (hx : x ∈ s.waitList.filter fun x => !own x) : rankAt p u x = rankAt p s x := by
      obtain ⟨mem, other⟩ := List.mem_filter.mp hx
      obtain ⟨a, waits⟩ := waits_of_listOk h mem
      rw [rankAt_waiting waits, rankAt_waiting ((stays x (by simpa using other)).trans waits)]
    refine ((h.ranked p (device ▸ hp)).filter _).imp_of_mem fun hx hy better => ?_
    rwa [same hx, same hy]
  empty hp := by rw [list, h.empty (profile?_eq_of_device device ▸ hp), List.filter_nil]
  position := fits.position
  atEnd again here := by
    rw [here] at fits
    exact of_decide_eq_true fits
  idle here := of_decide_eq_false (fits.idle here)

/-- The list stands, every entry waits as it did, and the sweep stands beside the list. -/
theorem listOk_restands {s u : State} (h : ListOk s) (device : u.device = s.device) (list : u.waitList = s.waitList)
    (fits : SweepFits u.waitList u.stepInHand u.sweep) (stays : ∀ e, waitingAsk (u.life e) = waitingAsk (s.life e)) : ListOk u :=
  listOk_without h (fun _ => false) device (by simpa using list) fits nofun fun e _ => stays e

/-- An entry leaves the list and is given a life that does not wait (R75, R86, R89). -/
theorem listOk_left {s : State} (h : ListOk s) (e : EntryIx) {l : Life} (gone : waitingAsk l = none) :
    ListOk (setLife e l (leaveList e s)) := by
  have others (x : EntryIx) (ne : x ≠ e) : (setLife e l (leaveList e s)).life x = s.life x := setLife_life_ne (leaveList e s) e x l ne
  refine listOk_without h (fun x => x == e) rfl ?_ ((fits_of_listOk h).left e) (fun x mine => ?_) (fun x other => ?_)
  · exact h.once.erase_eq_filter e
  · rw [beq_iff_eq] at mine
    subst mine
    rw [setLife_life, gone]
  · rw [others x (by simpa using other)]

/-- An entry that did not wait now does, and the list holds it behind the last of equal or better rank (R76 to R78). -/
theorem listOk_with {s u : State} (h : ListOk s) {p : Profile} (running : s.device = .running p) {e : EntryIx} {a : Asked}
    (new : e ∉ s.waitList) (room : s.waitList.length < Config.waitListMax) (device : u.device = s.device)
    (list : u.waitList = insertAfterLast (isAhead p.rankMode a s) e s.waitList) (hand : u.inHand = s.inHand)
    (sweep : u.sweep = s.sweep) (own : waitingAsk (u.life e) = some a) (others : ∀ x, x ≠ e → u.life x = s.life x) : ListOk u := by
  have perm : u.waitList.Perm (e :: s.waitList) := list ▸ insertAfterLast_perm _ e s.waitList
  have ranked {q : Profile} {x : EntryIx} (hx : x ∈ s.waitList) : rankAt q u x = rankAt q s x := by
    rw [rankAt, others x fun same => new (same ▸ hx), ← rankAt]
  refine ⟨perm.nodup_iff.mpr (List.nodup_cons.mpr ⟨new, h.once⟩), fun x => ?_, perm.length_eq.trans_le room, fun q hq => ?_,
    fun stopped => ?_, fun x again here => ?_, fun again here => ?_, fun here => ?_⟩
  · rw [perm.mem_iff, List.mem_cons]
    by_cases same : x = e
    · subst same
      simp [isPending_eq, own]
    · rw [others x same, ← h.pending]
      simp [same]
  · cases running.symm.trans (device ▸ hq)
    rw [list]
    refine insertAfterLast_pairwise (fun x hx => ?_) ((h.ranked p running).imp_of_mem fun hx hy better => ?_)
    · obtain ⟨b, waits⟩ := waits_of_listOk h hx
      rw [ranked hx, rankAt_waiting waits, rankAt_waiting own, isAhead, asked_of_waiting waits, decide_eq_true_iff]
    · rwa [ranked hx, ranked hy]
  · rw [profile?_eq_of_device device, profile?_of_running running] at stopped
    cases stopped
  · exact perm.mem_iff.mpr (List.mem_cons_of_mem e (h.position x again (sweep ▸ here)))
  · exact hand.trans (h.atEnd again (sweep ▸ here))
  · rw [hand]
    exact h.idle (sweep ▸ here)

/-- A FREE entry joins a list that has room, and waits (R73, R78). -/
theorem listOk_joined {s : State} (h : ListOk s) {p : Profile} (running : s.device = .running p) {e : EntryIx}
    (free : s.life e = .free) (room : s.waitList.length < Config.waitListMax) (a : Asked) (r : PendingReason) (w : Option Nat) :
    ListOk (setLife e (.pending a r w) (joinList p.rankMode e a s)) := by
  refine listOk_with (u := setLife e (.pending a r w) (joinList p.rankMode e a s)) (a := a) h running (fun mem => ?_) room rfl rfl
    rfl rfl ?_ (fun x ne => setLife_life_ne (joinList p.rankMode e a s) e x _ ne)
  · obtain ⟨b, waits⟩ := waits_of_listOk h mem
    rw [free] at waits
    cases waits
  · rw [setLife_life]
    rfl

end Sys2Proof.Proofs
end

section
/-! PROOFS. The shared operations, the expiries and the frame event keep the Pending List: one lemma for each, on the relation
`KeepsList`. -/

namespace Sys2Proof.Proofs

open Machine Safety Laws

/-! ### The relation -/

/-- The part of the state that the Pending List's invariant rests on. -/
def listOf (s : State) := (s.device, s.table, s.waitList, s.sweep, s.inHand)

/-- The evaluation in hand stands, and the Pending List stays well kept. -/
structure KeepsList (s u : State) : Prop where
  inHand : u.inHand = s.inHand
  listOk : ListOk s → ListOk u

@[refl] theorem KeepsList.refl (s : State) : KeepsList s s := ⟨rfl, id⟩

theorem KeepsList.trans {s u v : State} (h : KeepsList s u) (g : KeepsList u v) : KeepsList s v :=
  ⟨g.inHand.trans h.inHand, g.listOk ∘ h.listOk⟩

theorem foldl_keepsList {α : Type} (f : State → α → State) (h : ∀ s x, KeepsList s (f s x)) (xs : List α) (s : State) :
    KeepsList s (xs.foldl f s) := by
  induction xs generalizing s with
  | nil => rfl
  | cons x xs ih => exact (h s x).trans (ih (f s x))

theorem listOk_of_same {s u : State} (h : listOf u = listOf s) (ok : ListOk s) : ListOk u := by
  simp only [listOf, Prod.mk.injEq] at h
  obtain ⟨device, table, list, sweep, hand⟩ := h
  refine listOk_restands ok device list ?_ fun e => by rw [State.life, State.life, State.entry, State.entry, table]
  rw [list, sweep, State.stepInHand, hand]
  exact fits_of_listOk ok

/-- An update of nothing that the list's invariant rests on: by `rfl` for each record update of the model. -/
theorem keepsList_of_same {s u : State} (h : listOf u = listOf s) : KeepsList s u :=
  ⟨(congrArg (fun x => x.2.2.2.2) h :), listOk_of_same h⟩

theorem requestSweep_keepsList (s : State) : KeepsList s (requestSweep s) :=
  ⟨rfl, fun ok => listOk_restands ok rfl rfl (fits_of_listOk ok).requested fun _ => rfl⟩

theorem setLife_keepsList {e : EntryIx} {l : Life} {s : State} (h : waitingAsk l = waitingAsk (s.life e)) :
    KeepsList s (setLife e l s) := by
  refine ⟨rfl, fun ok => listOk_restands ok rfl rfl (fits_of_listOk (s := s) ok) fun x => ?_⟩
  rw [setLife_life_eq]
  split
  · next same => rw [same, h]
  · rfl

theorem mapLives_keepsList {f : EntryIx → Life → Option Life} (h : ∀ e l l', f e l = some l' → waitingAsk l' = waitingAsk l)
    (s : State) : KeepsList s (mapLives f s) := by
  refine foldl_keepsList _ (fun s e => ?_) allEntries s
  split
  · exact setLife_keepsList (h e _ _ ‹_›)
  · rfl

/-- An entry leaves the list with a life that does not wait. -/
theorem left_keepsList {e : EntryIx} {l : Life} (gone : waitingAsk l = none) (s : State) :
    KeepsList s (setLife e l (leaveList e s)) := ⟨rfl, fun ok => listOk_left ok e gone⟩

/-! ### Moves of entries that do not wait -/

theorem countedLife_waits {l l' : Life} (h : countedLife l = some l') : waitingAsk l' = waitingAsk l := by
  unfold countedLife at h
  split at h <;> cases h <;> rfl

theorem frozenLife_waits {batch : BitVec 16} {l l' : Life} (h : frozenLife batch l = some l') : waitingAsk l' = waitingAsk l := by
  unfold frozenLife at h
  split at h <;> cases h <;> rfl

theorem returnedLife_waits {l l' : Life} (h : returnedLife l = some l') : waitingAsk l' = waitingAsk l := by
  unfold returnedLife at h
  split at h <;> cases h <;> rfl

theorem abandonedLife_waits {l l' : Life} (h : abandonedLife l = some l') : waitingAsk l' = waitingAsk l := by
  unfold abandonedLife at h
  split at h <;> cases h <;> rfl

theorem committedLife_waits {settleFrames : Nat} {l l' : Life} (h : committedLife settleFrames l = some l') :
    waitingAsk l' = waitingAsk l := by
  unfold committedLife at h
  split at h <;> cases h
  case h_3 => split <;> rfl
  all_goals rfl

theorem cooledLife_waits {l l' : Life} (h : cooledLife l = some l') : waitingAsk l' = waitingAsk l := by
  unfold cooledLife at h
  split at h <;> cases h
  rfl

/-- A purged entry does not wait (R41). -/
theorem purgedLife_gone (cycle : CycleState) (l : Life) : waitingAsk ((purgedLife cycle l).getD l) = none := by
  cases l with
  | adding a q b mark forced =>
    simp only [purgedLife]
    split <;> rfl
  | _ => rfl

/-! ### Notices, conduct, the prepare phase and the purge -/

theorem issueAll_keepsList (ts : List Tenant) (body : NoticeBody) (s : State) : KeepsList s (issueAll ts body s) := by
  obtain ⟨_, h⟩ := issueAll_frame ts body s
  rw [h]
  exact keepsList_of_same rfl

theorem proceed_keepsList (s : State) : KeepsList s (proceed s) := by
  obtain ⟨_, _, _, _, _, _, _, _, _, h⟩ := proceed_frame s
  rw [h]
  exact keepsList_of_same rfl

theorem charge_keepsList (p : Profile) (t : Tenant) (n : Nat) (cause : Cause) (s : State) :
    KeepsList s (charge p t n cause s).1 := by
  obtain ⟨_, _, h⟩ := charge_frame p t n cause s
  rw [h]
  exact keepsList_of_same rfl

theorem chargeAll_keepsList (p : Profile) (n : Nat) (cause : Cause) (ts : List Tenant) (s : State) :
    KeepsList s (chargeAll p n cause ts s).1 := by
  induction ts generalizing s with
  | nil => rfl
  | cons t ts ih => exact (charge_keepsList p t n cause s).trans (ih _)

theorem credit_keepsList (t : Tenant) (cause : Cause) (s : State) : KeepsList s (credit t cause s) := by
  obtain ⟨_, _, h⟩ := credit_frame t cause s
  rw [h]
  exact keepsList_of_same rfl

theorem leaveExpected_keepsList (t : Tenant) (s : State) : KeepsList s (leaveExpected t s) := keepsList_of_same rfl

theorem withdrawPart_keepsList (t : Tenant) (s : State) : KeepsList s (withdrawPart t s) := by
  refine (mapLives_keepsList (fun _ l l' h => ?_) s).trans (leaveExpected_keepsList t _)
  split at h
  · exact returnedLife_waits h
  · cases h

/-- The tenant's entries leave the list and wait no more; every other waits as it did (R41, R79). -/
theorem purged_keepsList (t : Tenant) (s : State) : KeepsList s (purged t s) := by
  obtain ⟨_, _, _, _, _, _, frame⟩ := purged_frame t s
  have device : (purged t s).device = s.device := (congrArg State.device frame :)
  have hand : (purged t s).inHand = s.inHand := (congrArg State.inHand frame :)
  obtain ⟨list, sweep⟩ := purged_list t s
  rw [outOfList_eq] at list sweep
  refine ⟨hand, fun ok => listOk_without ok (ownedBy t s) device ?_ ?_ (fun e own => ?_) (fun e other => ?_)⟩
  · exact list.trans (leaveAll_waitList (pre := []) nofun s.waitList rfl)
  · rw [list, sweep, State.stepInHand, hand]
    exact leaveAll_fits _ (fits_of_listOk ok)
  · rw [purged_life, purgeMove_own (of_decide_eq_true own)]
    exact purgedLife_gone s.cycle (s.life e)
  · rw [purged_life, purgeMove_other (of_decide_eq_false other)]
    rfl

theorem purge_keepsList (t : Tenant) (s : State) : KeepsList s (purge t s) := by
  have proceeded : KeepsList s (if t ∈ s.expected then proceed (purged t s) else purged t s) := by
    split
    · exact (purged_keepsList t s).trans (proceed_keepsList _)
    · exact purged_keepsList t s
  rw [purge_eq]
  generalize (if t ∈ s.expected then proceed (purged t s) else purged t s) = u at proceeded
  have triggered : KeepsList u { u with trigger := true } := keepsList_of_same rfl
  exact proceeded.trans (triggered.trans (requestSweep_keepsList _))

theorem purgeAll_keepsList (ts : List Tenant) (s : State) : KeepsList s (purgeAll ts s) :=
  foldl_keepsList _ (fun s t => purge_keepsList t s) ts s

theorem timeOut_keepsList (p : Profile) (s : State) : KeepsList s (timeOut p s) := by
  have withdrawn : KeepsList s (s.expected.foldl (fun s t => withdrawPart t s) s) :=
    foldl_keepsList _ (fun s t => withdrawPart_keepsList t s) s.expected s
  unfold timeOut
  dsimp only
  rw [charge_foldl]
  exact withdrawn.trans ((chargeAll_keepsList p 8 .timeout s.expected _).trans
    ((proceed_keepsList _).trans (purgeAll_keepsList _ _)))

theorem endSettle_keepsList (s : State) : KeepsList s (endSettle s) := by
  have freed := mapLives_keepsList (fun _ _ _ => cooledLife_waits) s
  rw [endSettle_eq]
  generalize mapLives (fun _ l => cooledLife l) s = u at freed ⊢
  have quiet : KeepsList u { u with changed := [], settleLeft := none, cycle := .quiet } := keepsList_of_same rfl
  exact freed.trans (quiet.trans (requestSweep_keepsList _))

theorem abandon_keepsList (epoch : BitVec 32) (s : State) : KeepsList s (abandon epoch s) := by
  unfold abandon
  extract_lets freed s1 s2
  have moved : KeepsList s s1 := mapLives_keepsList (fun _ _ _ => abandonedLife_waits) s
  clear_value s1
  have quiet : KeepsList s1 { s1 with cycle := .quiet, trigger := true } := keepsList_of_same rfl
  have told : KeepsList s s2 := moved.trans (quiet.trans (issueAll_keepsList _ _ _))
  split
  · exact told.trans (requestSweep_keepsList s2)
  · exact told

theorem imageFailed_keepsList (f : Flight) (s : State) : KeepsList s (imageFailed f s) := by
  unfold imageFailed
  split
  · exact (show KeepsList s (giveUp s) from keepsList_of_same rfl).trans (abandon_keepsList _ _)
  · exact keepsList_of_same rfl

theorem handCancel_keepsList (f : Flight) (s : State) : KeepsList s (handCancel f s) := keepsList_of_same rfl

theorem takeRecovery_keepsList (p : Profile) (t : Tenant) (how : RecoveryHow) (s : State) :
    KeepsList s (takeRecovery p t how s) := keepsList_of_same rfl

/-! ### The expiries -/

theorem holdOut_keepsList (e : EntryIx) (s : State) : KeepsList s (holdOut e s) := by
  unfold holdOut
  split
  · next h => exact (setLife_keepsList (h ▸ rfl)).trans (keepsList_of_same rfl)
  · rfl

theorem waitOut_keepsList (e : EntryIx) (s : State) : KeepsList s (waitOut e s) := by
  unfold waitOut
  split
  · exact (left_keepsList rfl s).trans (keepsList_of_same rfl)
  · rfl

theorem expire_keepsList (p : Profile) (it : FrameItem) (s : State) : KeepsList s (expire p it s) := by
  cases it with
  | cadence =>
    simp only [expire, cadenceOut]
    split
    · exact keepsList_of_same rfl
    · rfl
  | hold e => exact holdOut_keepsList e s
  | lapse e => exact waitOut_keepsList e s
  | pace t => exact requestSweep_keepsList s
  | recovery t =>
    simp only [expire, recoveryOut]
    split
    · exact takeRecovery_keepsList p t .auto s
    · rfl
  | prepareTimeout =>
    simp only [expire, prepareOut]
    split
    · exact timeOut_keepsList p s
    · rfl
  | settleEnd =>
    simp only [expire, settleOut]
    split
    · exact endSettle_keepsList s
    · rfl
  | ackWait =>
    simp only [expire, ackWaitOut]
    split
    · split
      · exact (handCancel_keepsList _ s).trans (imageFailed_keepsList _ _)
      · rfl
    · rfl

theorem takeExpiry_keepsList (it : FrameItem) (s : State) : KeepsList s (takeExpiry it s) := by
  unfold takeExpiry
  split
  · split
    · exact (show KeepsList s { s with due := s.due.erase it } from keepsList_of_same rfl).trans (expire_keepsList _ it _)
    · rfl
  · rfl

theorem foldl_takeExpiry_keepsList (its : List FrameItem) (s : State) :
    KeepsList s (its.foldl (fun s it => takeExpiry it s) s) :=
  foldl_keepsList _ (fun s it => takeExpiry_keepsList it s) its s

theorem settleDue_keepsList (s : State) : KeepsList s (settleDue s) := foldl_takeExpiry_keepsList s.due s

/-! ### The frame event -/

theorem countFrame_keepsList (p : Profile) (holdoff : Bool) (s : State) : KeepsList s (countFrame p holdoff s) := by
  have counted := mapLives_keepsList (fun _ _ _ => countedLife_waits) s
  unfold countFrame
  generalize mapLives (fun _ l => countedLife l) s = u at counted ⊢
  exact counted.trans (keepsList_of_same rfl)

theorem freeze_keepsList (p : Profile) (s : State) : KeepsList s (freeze p s) := by
  unfold freeze
  split
  · extract_lets s1 called s2 s3
    have flagged : KeepsList s { s with trigger := false, batch := s.batch + 1 } := keepsList_of_same rfl
    have frozen : KeepsList s s1 := flagged.trans (mapLives_keepsList (fun _ _ _ => frozenLife_waits) _)
    clear_value s1
    have awaited : KeepsList s1 s2 := keepsList_of_same rfl
    have told : KeepsList s2 s3 :=
      foldl_keepsList (fun v t => issue t (.prepare v.batch (v.prepareItems t)) v) (fun _ _ => keepsList_of_same rfl) called s2
    clear_value s3
    refine frozen.trans (awaited.trans (told.trans ?_))
    split <;> exact keepsList_of_same rfl
  · exact keepsList_of_same rfl

theorem commit_keepsList (p : Profile) (f : Flight) (s : State) : KeepsList s (commit p f s) := by
  unfold commit
  extract_lets changed dropped s1 s2 s3
  have handed : KeepsList s (handApply f s) := keepsList_of_same rfl
  have moved : KeepsList s s1 := handed.trans (mapLives_keepsList (fun _ _ _ => committedLife_waits) _)
  clear_value s1
  have settling : KeepsList s1 { s1 with changed := changed } := keepsList_of_same rfl
  have told : KeepsList s s2 := moved.trans (settling.trans (issueAll_keepsList _ _ _))
  have swept : KeepsList s2 s3 := by
    unfold s3
    split
    · exact requestSweep_keepsList s2
    · rfl
  clear_value s3
  refine told.trans (swept.trans ?_)
  split <;> exact keepsList_of_same rfl

theorem cycleTest_keepsList (p : Profile) (cycle : CycleState) (holdoff : Bool) (s : State) :
    KeepsList s (cycleTest p cycle holdoff s) := by
  unfold cycleTest
  split
  · rfl
  split
  · split
    · exact freeze_keepsList p s
    · rfl
  · split
    · exact commit_keepsList p _ s
    · rfl
  · split
    · exact keepsList_of_same rfl
    · rfl
  · rfl
  · rfl

theorem frameEvent_keepsList (p : Profile) (holdoff : Bool) (o : FrameOrder) (s : State) :
    KeepsList s (frameEvent p holdoff o s) := by
  unfold frameEvent
  extract_lets counted s1 s2 now s3
  have counts : KeepsList s counted := countFrame_keepsList p holdoff s
  clear_value counted
  have due : KeepsList counted s1 := keepsList_of_same rfl
  have early : KeepsList s1 s2 := foldl_takeExpiry_keepsList o.early s1
  have late : KeepsList s2 s3 := foldl_takeExpiry_keepsList now s2
  exact counts.trans (due.trans (early.trans (late.trans (cycleTest_keepsList p s.cycle holdoff s3))))

end Sys2Proof.Proofs
end

section
/-! PROOFS. Every command keeps the Pending List: the evaluations of the Plan Engine, the sweep step and the rows that are made of the
shared operations, and from them the statement about a step. -/

namespace Sys2Proof.Proofs

open Machine Safety Laws

/-! ### The evaluations of the Plan Engine -/

theorem bumpGeneration_keepsList (e : EntryIx) (s : State) : KeepsList s (bumpGeneration e s) :=
  ⟨rfl, fun ok => listOk_restands ok rfl rfl (fits_of_listOk (s := s) ok) fun x => by rw [bumpGeneration_life]⟩

theorem stage_keepsList {p : Profile} {e : EntryIx} {a : Asked} {q : Placed} {s : State} (h : waitingAsk (s.life e) = none) :
    KeepsList s (stage p e a q s) :=
  (setLife_keepsList (l := .staged a q) h.symm).trans (keepsList_of_same rfl)

theorem fitFailed_keepsList {p : Profile} {s : State} (running : s.device = .running p) {e : EntryIx} (free : s.life e = .free)
    (a : Asked) (q : PlaceAsk) (r : PendingReason) : KeepsList s (fitFailed p e a q r s).1 := by
  unfold fitFailed
  split
  · rfl
  split
  · rfl
  · next room => exact ⟨rfl, fun ok => listOk_joined ok running free (Nat.not_le.mp room) a r q.waitLimit⟩

theorem evalPlace_keepsList {p : Profile} {s : State} (running : s.device = .running p) (t : Tenant) (f : PlaceFields) :
    KeepsList s (evalPlace p t f s).1 := by
  unfold evalPlace
  split
  · rfl
  split
  · rfl
  next e found =>
  split
  · rfl
  extract_lets s1
  have bumped : KeepsList s s1 := bumpGeneration_keepsList e s
  have free : s1.life e = .free := by rw [bumpGeneration_life, lowestFree_life found]
  split
  · exact bumped
  split
  · exact bumped.trans (stage_keepsList (by rw [free]; rfl))
  · exact bumped.trans (fitFailed_keepsList (s := s1) running free _ _ _)

theorem releaseFromBatch_keepsList {t : Tenant} {e : EntryIx} {s : State} (h : waitingAsk (s.life e) = none) :
    KeepsList s (releaseFromBatch t e s) := by
  unfold releaseFromBatch
  extract_lets s1
  have freed : KeepsList s s1 := (setLife_keepsList (l := .free) h.symm).trans (requestSweep_keepsList _)
  split
  · exact freed.trans ((leaveExpected_keepsList t s1).trans (proceed_keepsList _))
  · exact freed

theorem evalRelease_keepsList (p : Profile) (t : Tenant) (h : Handle) (s : State) : KeepsList s (evalRelease p t h s).1 := by
  unfold evalRelease
  split
  · rfl
  · split
    case h_2 hl => exact (setLife_keepsList (hl ▸ rfl)).trans (requestSweep_keepsList _)
    case h_3 hl =>
      split
      · exact releaseFromBatch_keepsList (hl ▸ rfl)
      · exact setLife_keepsList (hl ▸ rfl)
    case h_4 hl => exact setLife_keepsList (hl ▸ rfl)
    all_goals rfl

theorem evalWithdraw_keepsList (p : Profile) (t : Tenant) (h : Handle) (s : State) : KeepsList s (evalWithdraw p t h s).1 := by
  unfold evalWithdraw
  split
  · rfl
  · split
    case h_1 => exact left_keepsList rfl s
    all_goals rfl

theorem evalQuerySpan_keepsList (p : Profile) (t : Tenant) (h : Handle) (s : State) :
    KeepsList s (evalQuerySpan p t h s).1 := by
  unfold evalQuerySpan
  split
  · rfl
  · exact keepsList_of_same rfl

theorem evalQueryMap_keepsList (p : Profile) (t : Tenant) (x : BitVec 16 × Byte) (s : State) :
    KeepsList s (evalQueryMap p t x s).1 := by
  unfold evalQueryMap
  dsimp only
  split <;> rfl

theorem evalReady_keepsList (p : Profile) (t : Tenant) (batch : BitVec 16) (s : State) :
    KeepsList s (evalReady p t batch s).1 := by
  unfold evalReady
  split
  · rfl
  · exact (leaveExpected_keepsList t s).trans ((credit_keepsList t _ _).trans (proceed_keepsList _))

theorem evalRefuse_keepsList (p : Profile) (t : Tenant) (batch : BitVec 16) (s : State) :
    KeepsList s (evalRefuse p t batch s).1 := by
  unfold evalRefuse
  split
  · rfl
  · have proceeded : KeepsList s (proceed (charge p t 2 .refusal (withdrawPart t s)).1) :=
      (withdrawPart_keepsList t s).trans ((charge_keepsList p t 2 .refusal _).trans (proceed_keepsList _))
    dsimp only
    split
    · exact proceeded.trans (purge_keepsList t _)
    · exact proceeded

/-- The engine may become IDLE where no sweep step was in hand. -/
theorem listOk_handFree {s : State} (ok : ListOk s) (h : s.inHand ≠ some .sweep) : ListOk { s with inHand := none } := by
  refine listOk_restands ok rfl rfl ?_ fun _ => rfl
  have fits := fits_of_listOk ok
  rwa [State.stepInHand, decide_eq_false h] at fits

/-- The completion of a port's evaluation: no sweep step was in hand. -/
theorem completeFor_listOk {α : Type} {select : EngineRequest → Option α}
    {eval : Profile → Tenant → α → State → State × Answer}
    (h : ∀ {p s}, s.device = .running p → ∀ t x, KeepsList s (eval p t x s).1) {s : State} (ok : ListOk s) :
    ListOk (completeFor select eval s) := by
  unfold completeFor
  split
  · next t p hand hp =>
    have answered {k : FrameKind} {x : State × Answer} (kept : KeepsList s x.1) :
        ListOk { respond t k x.2 x.1 with inHand := none } := by
      have placed : KeepsList x.1 (respond t k x.2 x.1) := keepsList_of_same rfl
      refine listOk_handFree ((kept.trans placed).listOk ok) ?_
      rw [(kept.trans placed).inHand, hand]
      nofun
    split
    · split
      · refine answered ?_
        split
        · rfl
        · exact h (device_of_profile? hp) _ _
      · exact ok
    · exact ok
  · exact ok

/-! ### The arbiter and the sweep step -/

/-- The sweep is granted the engine with an entry at its position (R48, R82). -/
theorem grantEngine_listOk {s : State} (ok : ListOk s) : ListOk (grantEngine s) := by
  unfold grantEngine
  split
  · next hand _ =>
    split
    · next r found =>
      have waits : s.waiting r = true := List.find?_some found
      have fits := fits_of_listOk ok
      refine listOk_restands ok rfl rfl ?_ fun _ => rfl
      change SweepFits s.waitList (decide (some r = some .sweep)) s.sweep
      rw [State.stepInHand, hand] at fits
      cases sweep : s.sweep with
      | idle =>
        refine decide_eq_false fun granted => ?_
        cases granted
        simp [State.waiting, sweep] at waits
      | running pos again =>
        rw [sweep] at fits
        cases pos with
        | entry e => exact fits
        | listEnd => cases fits
    · exact ok
  · exact ok

/-- While a step is in hand the position moves past the entry (R83). -/
theorem advance_keepsList {s : State} (stepping : s.inHand = some .sweep) (e : EntryIx) : KeepsList s (advance e s) := by
  refine ⟨rfl, fun ok => listOk_restands ok rfl rfl ?_ fun _ => rfl⟩
  have fits := fits_of_listOk ok
  have hand : s.stepInHand = true := decide_eq_true stepping
  rw [hand] at fits
  change SweepFits s.waitList s.stepInHand (s.sweep.movedPast e s.waitList)
  rw [hand]
  exact fits.advanced e

theorem stepOn_keepsList {s : State} (stepping : s.inHand = some .sweep) (p : Profile) (e : EntryIx) :
    KeepsList s (stepOn p e s) := by
  unfold stepOn
  split
  · next a _ w hl =>
    split
    · exact advance_keepsList stepping e
    split
    · next q _ =>
      have left : KeepsList s (setLife e (.staged a q) (leaveList e s)) := left_keepsList rfl s
      exact left.trans (keepsList_of_same rfl)
    · exact (setLife_keepsList (hl ▸ rfl)).trans (advance_keepsList (s := setLife e _ s) stepping e)
  all_goals exact advance_keepsList stepping e

/-- The end of a step takes the end of the list (R83, R84). -/
theorem endStep_listOk {s : State} (ok : ListOk s) : ListOk (endStep s) :=
  listOk_restands ok rfl rfl (settled_fits (fun _ => rfl) ok.position) fun _ => rfl

theorem sweepStep_listOk {s : State} (ok : ListOk s) : ListOk (sweepStep s) := by
  unfold sweepStep
  split
  · next stepping _ =>
    split
    · exact endStep_listOk ((stepOn_keepsList stepping _ _).listOk ok)
    · exact endStep_listOk ok
    · exact endStep_listOk ok
  · exact ok

/-! ### Rows -/

/-- The command ends in a next state, whose Pending List is well kept when that of `s` is. -/
def EndsListed (s : State) (o : Host.Outcome State Fault Refusal) : Prop := ∃ u, o = .next u ∧ (ListOk s → ListOk u)

theorem endsListed_next {s u : State} (h : KeepsList s u) : EndsListed s (.next u) := ⟨u, rfl, h.listOk⟩

/-- A command that first takes what the last frame event left due. -/
theorem EndsListed.of_settleDue {s : State} {o : Host.Outcome State Fault Refusal} (h : EndsListed (settleDue s) o) :
    EndsListed s o := by
  obtain ⟨u, rfl, hu⟩ := h
  exact ⟨u, rfl, hu ∘ (settleDue_keepsList s).listOk⟩

theorem endsListed_kept {f : State → State} (h : ∀ s, KeepsList s (f s)) (s : State) : EndsListed s (.next (f (settleDue s))) :=
  .of_settleDue (endsListed_next (h _))

theorem endsListed_settled {f : State → State} (h : ∀ {s}, ListOk s → ListOk (f s)) (s : State) :
    EndsListed s (.next (f (settleDue s))) := .of_settleDue ⟨_, rfl, h⟩

/-! ### The tenant ports -/

theorem takeNow_keepsList {act : State → State × Answer} (h : ∀ s, KeepsList s (act s).1) (t : Tenant) (k : FrameKind)
    (s : State) : KeepsList s (takeNow t k act s) := by
  unfold takeNow
  split
  · rfl
  extract_lets s1 q s2
  split
  · exact keepsList_of_same rfl
  have emptied : KeepsList s s2 := keepsList_of_same rfl
  have acted : KeepsList s2 (match requestCheck t k s2 with
      | some c => (s2, refusal c)
      | none => act s2).1 := by
    split
    · rfl
    · exact h s2
  exact emptied.trans (acted.trans (keepsList_of_same rfl))

theorem setMode_keepsList (t : Tenant) (m : PortMode) (s : State) : KeepsList s (setMode t m s) := keepsList_of_same rfl

theorem withdrawal_keepsList (t : Tenant) (m : PortMode) (s : State) : KeepsList s (withdrawal t m s) :=
  (setMode_keepsList t m s).trans (purge_keepsList t _)

theorem actMode_keepsList (t : Tenant) (target : Byte) (s : State) : KeepsList s (actMode t target s).1 := by
  unfold actMode
  split
  · rfl
  split
  case h_2 =>
    split
    · exact setMode_keepsList _ _ _
    · rfl
  case h_5 | h_7 | h_9 => exact setMode_keepsList _ _ _
  case h_11 => exact (setMode_keepsList _ _ _).trans (requestSweep_keepsList _)
  case h_13 | h_14 | h_15 | h_16 => exact withdrawal_keepsList _ _ _
  all_goals rfl

theorem actTrigger_keepsList (t : Tenant) (s : State) : KeepsList s (actTrigger t s).1 := by
  unfold actTrigger
  split
  · split
    · exact keepsList_of_same rfl
    · rfl
  · rfl

theorem actReadLog_keepsList (start : BitVec 16) (limit : Byte) (s : State) : KeepsList s (actReadLog start limit s).1 := by
  unfold actReadLog
  dsimp only
  split
  · rfl
  split
  · rfl
  split <;> rfl

theorem actRecover_keepsList (t : Tenant) (s : State) : KeepsList s (actRecover t s).1 := by
  unfold actRecover
  split
  · rfl
  dsimp only
  split
  · rfl
  split
  · rfl
  · rfl
  split
  · exact takeRecovery_keepsList _ _ _ _
  · rfl

theorem actReadNotice_keepsList (t : Tenant) (s : State) : KeepsList s (actReadNotice t s).1 := by
  unfold actReadNotice
  split
  · rfl
  · exact keepsList_of_same rfl

theorem requestAccepted_endsListed (t : Tenant) (r : EngineRequest) (s : State) : EndsListed s (execRequestAccepted t r s) := by
  refine .of_settleDue ?_
  unfold execRequestAccepted
  generalize settleDue s = u
  dsimp only
  split
  · exact endsListed_next (.refl u)
  split
  · exact endsListed_next (keepsList_of_same rfl)
  split
  · exact endsListed_next (keepsList_of_same rfl)
  · exact endsListed_next (keepsList_of_same rfl)

theorem malformedFrame_endsListed (t : Tenant) (bytes : List Byte) (s : State) :
    EndsListed s (execMalformedFrame t bytes s) := by
  refine .of_settleDue ?_
  unfold execMalformedFrame
  dsimp only
  split
  · exact endsListed_next (.refl _)
  · exact endsListed_next (keepsList_of_same rfl)

theorem chipSelect_endsListed (t : Tenant) (s : State) : EndsListed s (execChipSelectAsserted t s) := by
  refine .of_settleDue ?_
  unfold execChipSelectAsserted
  dsimp only
  split
  · exact endsListed_next (.refl _)
  · exact endsListed_next (keepsList_of_same rfl)

theorem fetch_endsListed (t : Tenant) (count : Nat) (s : State) : EndsListed s (execFetch t count s) := by
  refine .of_settleDue ?_
  unfold execFetch
  dsimp only
  split
  · exact endsListed_next (.refl _)
  · exact endsListed_next (keepsList_of_same rfl)

/-- A port reset discards the port's own evaluation, never a sweep step (R51). -/
theorem portReset_endsListed (t : Tenant) (s : State) : EndsListed s (execPortReset t s) := by
  refine .of_settleDue ?_
  unfold execPortReset
  extract_lets u s1 s2 q s3
  have offline : KeepsList u s1 := setMode_keepsList t .offline u
  have purged : KeepsList s1 s2 := by
    unfold s2
    split
    · exact purge_keepsList t s1
    · rfl
  clear_value s2
  have cleared : KeepsList s2 s3 := keepsList_of_same rfl
  have kept := offline.trans (purged.trans cleared)
  clear_value s3
  refine ⟨_, rfl, fun ok => ?_⟩
  split
  · next hand =>
    refine listOk_handFree (kept.listOk ok) ?_
    rw [hand]
    nofun
  · exact kept.listOk ok

theorem portResetRelease_endsListed (t : Tenant) (s : State) : EndsListed s (execPortResetRelease t s) := by
  refine .of_settleDue ?_
  unfold execPortResetRelease
  dsimp only
  split
  · exact endsListed_next (keepsList_of_same rfl)
  · exact endsListed_next (.refl _)

/-! ### The plan link -/

theorem endImageSend_keepsList (s : State) : KeepsList s (endImageSend s) := by
  unfold endImageSend
  split
  · exact keepsList_of_same rfl
  · rfl

theorem handWaiting_keepsList (s : State) : KeepsList s (handWaiting s) := by
  unfold handWaiting
  split
  · exact keepsList_of_same rfl
  · rfl

theorem endFrameSend_keepsList (s : State) : KeepsList s (endFrameSend s) := by
  have sent (rest : List OutFrame) (bytes : List Byte) : KeepsList s { s with transmit := rest, pltx := bytes } :=
    keepsList_of_same rfl
  unfold endFrameSend
  split
  · exact (sent _ _).trans (handWaiting_keepsList _)
  · exact (sent _ _).trans (handWaiting_keepsList _)
  · rfl

theorem takeAck_keepsList (epoch : BitVec 32) (send : Byte) (s : State) : KeepsList s (takeAck epoch send s) := by
  unfold takeAck
  split
  · split
    · exact keepsList_of_same rfl
    · rfl
  · rfl

theorem refuseImage_keepsList (f : Flight) (s : State) : KeepsList s (refuseImage f s) := by
  unfold refuseImage
  split
  · exact imageFailed_keepsList f s
  · exact (handCancel_keepsList f s).trans (imageFailed_keepsList f _)

theorem takeNak_keepsList (epoch : BitVec 32) (send : Byte) (s : State) : KeepsList s (takeNak epoch send s) := by
  have refused (f : Flight) : KeepsList s (if answers epoch send f then refuseImage f s else s) := by
    split
    · exact refuseImage_keepsList f s
    · rfl
  unfold takeNak
  split
  · exact refused _
  · exact refused _
  · rfl

/-! ### The Spectrum Monitor -/

theorem arriveReport_keepsList (bytes : List Byte) (strayBits : Bool) (s : State) :
    KeepsList s (arriveReport bytes strayBits s) := by
  unfold arriveReport
  dsimp only
  split
  · split <;> exact keepsList_of_same rfl
  · exact keepsList_of_same rfl

theorem joinAll_keepsList (vs : List Violation) (s : State) : KeepsList s (joinAll vs s).1 := by
  induction vs generalizing s with
  | nil => rfl
  | cons v vs ih => exact (show KeepsList s (joinLog v s).1 from keepsList_of_same rfl).trans (ih _)

theorem notifyRecord_keepsList (v : Violation) (s : State) : KeepsList s (notifyRecord v s) := by
  unfold notifyRecord
  split
  · exact keepsList_of_same rfl
  · rfl

theorem restartRecovery_keepsList (p : Profile) (t : Tenant) (s : State) : KeepsList s (restartRecovery p t s) := by
  obtain ⟨_, h⟩ := restartRecovery_frame p t s
  rw [h]
  exact keepsList_of_same rfl

theorem handOver_keepsList (p : Profile) (t : Tenant) (blamed judged : Bool) (s : State) :
    KeepsList s (handOver p t blamed judged s).1 := by
  unfold handOver
  split
  · dsimp only
    split
    · exact restartRecovery_keepsList p t s
    · rfl
  split
  · rfl
  split
  · exact charge_keepsList p t 8 .violation s
  split
  · exact credit_keepsList t .cleanCredit s
  · rfl

theorem handOverAll_keepsList (p : Profile) (blamed judged : Tenant → Bool) (ts : List Tenant) (s : State) :
    KeepsList s (handOverAll p blamed judged ts s).1 := by
  induction ts generalizing s with
  | nil => rfl
  | cons t ts ih => exact (handOver_keepsList p t (blamed t) (judged t) s).trans (ih _)

theorem evaluateReport_keepsList (p : Profile) (r : Report) (rest : List Report) (s : State) :
    KeepsList s (evaluateReport p r rest s) := by
  unfold evaluateReport
  extract_lets judgements findings notify
  have logged := joinAll_keepsList (recordOrder.filterMap (mergeRecord s findings)) s
  generalize joinAll (recordOrder.filterMap (mergeRecord s findings)) s = joined at logged ⊢
  obtain ⟨s1, records⟩ := joined
  dsimp -zeta only
  extract_lets s2
  have notified : KeepsList s1 s2 := by
    unfold s2
    split
    · exact foldl_keepsList _ (fun s v => notifyRecord_keepsList v s) records s1
    · rfl
  rw [handOver_foldl]
  have handed := handOverAll_keepsList p (fun t => records.any fun v => decide (v.tenant = some t))
    (fun t => judgements.any fun j => decide (j.1 = some t)) allTenants s2
  generalize handOverAll _ _ _ _ _ = x at handed ⊢
  have taken (u : State) : KeepsList u { u with reports := rest, evaluating := !rest.isEmpty } := keepsList_of_same rfl
  exact logged.trans (notified.trans (handed.trans ((taken x.1).trans (purgeAll_keepsList _ _))))

theorem reportEvaluationBegin_endsListed (s : State) : EndsListed s (execReportEvaluationBegin s) := by
  refine .of_settleDue ?_
  unfold execReportEvaluationBegin
  dsimp only
  split
  · exact endsListed_next (keepsList_of_same rfl)
  · exact endsListed_next (.refl _)

theorem reportEvaluation_endsListed (s : State) : EndsListed s (execReportEvaluation s) := by
  refine .of_settleDue ?_
  unfold execReportEvaluation
  dsimp only
  split
  · exact endsListed_next (evaluateReport_keepsList _ _ _ _)
  · exact endsListed_next (.refl _)

/-! ### The resets and the loads -/

/-- Without a profile the list is empty, and the device may become anything (R92). -/
theorem listOk_of_stopped {s u : State} (stopped : s.profile? = none) (table : u.table = s.table) (list : u.waitList = s.waitList)
    (sweep : u.sweep = s.sweep) (hand : u.inHand = s.inHand) (ok : ListOk s) : ListOk u := by
  have empty : u.waitList = [] := list.trans (ok.empty stopped)
  have life (e : EntryIx) : u.life e = s.life e := by rw [State.life, State.life, State.entry, State.entry, table]
  refine ⟨list ▸ ok.once, fun e => ?_, list ▸ ok.bounded, fun p _ => ?_, fun _ => empty, fun e again here => ?_,
    fun again here => ?_, fun here => ?_⟩
  · rw [list, life]
    exact ok.pending e
  · rw [empty]
    exact .nil
  · exact list ▸ ok.position e again (sweep ▸ here)
  · exact hand.trans (ok.atEnd again (sweep ▸ here))
  · exact hand ▸ ok.idle (sweep ▸ here)

theorem beginReload_listOk (s : State) : ListOk (beginReload s) where
  once := .nil
  pending e := by
    rw [beginReload_life]
    exact ⟨nofun, nofun⟩
  bounded := Nat.zero_le _
  ranked _ _ := .nil
  empty _ := rfl
  position _ _ := nofun
  atEnd _ := nofun
  idle _ := nofun

theorem loadSuccess_listOk {s : State} (stopped : s.profile? = none) (kind : LoadKind) (p : Profile) (ok : ListOk s) :
    ListOk (loadSuccess kind p s) := by
  unfold loadSuccess
  refine (handWaiting_keepsList _).listOk ?_
  exact listOk_of_stopped stopped rfl rfl rfl rfl ok

theorem deviceReset_endsListed (s : State) : EndsListed s (execDeviceReset s) :=
  ⟨_, rfl, fun _ => listOk_of_same (s := State.reset) rfl listOk_reset⟩

theorem rstRelease_endsListed (s : State) : EndsListed s (execRstRelease s) := by
  refine .of_settleDue ?_
  unfold execRstRelease
  generalize settleDue s = u
  dsimp only
  split
  · next h =>
    have stopped : u.profile? = none := by simp [State.profile?, (rstAsserted_iff u).mp h]
    exact ⟨_, rfl, listOk_of_stopped stopped rfl rfl rfl rfl⟩
  · exact endsListed_next (.refl u)

theorem reload_endsListed (s : State) : EndsListed s (execReload s) := by
  refine .of_settleDue ?_
  unfold execReload
  generalize settleDue s = u
  dsimp only
  split
  · exact endsListed_next (.refl u)
  · exact ⟨_, rfl, fun _ => beginReload_listOk u⟩

theorem loadComplete_endsListed (memory : List Byte) (s : State) : EndsListed s (execLoadComplete memory s) := by
  refine .of_settleDue ?_
  unfold execLoadComplete
  generalize settleDue s = u
  dsimp only
  split
  · next kind hd =>
    have stopped : u.profile? = none := by simp [State.profile?, hd]
    have read (staged : List Byte) : KeepsList u { u with staged := staged } := keepsList_of_same rfl
    split
    · exact ⟨_, rfl, fun ok => loadSuccess_listOk stopped kind _ ((read _).listOk ok)⟩
    · exact ⟨_, rfl, listOk_of_stopped stopped rfl rfl rfl rfl⟩
  · exact endsListed_next (.refl u)

theorem framePulse_endsListed (holdoff : Bool) (o : FrameOrder) (s : State) : EndsListed s (execFramePulse holdoff o s) := by
  refine .of_settleDue ?_
  unfold execFramePulse
  dsimp only
  split
  · split
    · exact endsListed_next (frameEvent_keepsList _ holdoff o _)
    · exact endsListed_next (.refl _)
  · exact endsListed_next (.refl _)

theorem internalFrameCountdown_endsListed (holdoff : Bool) (o : FrameOrder) (s : State) :
    EndsListed s (execInternalFrameCountdown holdoff o s) := by
  refine .of_settleDue ?_
  unfold execInternalFrameCountdown
  generalize settleDue s = u
  dsimp only
  split
  · next p _ =>
    have event := frameEvent_keepsList p holdoff o u
    generalize frameEvent p holdoff o u = v at event ⊢
    split
    · exact endsListed_next (event.trans (keepsList_of_same rfl))
    · exact endsListed_next (.refl u)
  · exact endsListed_next (.refl u)

/-! ### Every command -/

theorem exec_endsListed (c : Instr) (s : State) : EndsListed s (exec c s) := by
  cases c with
  | deviceReset => exact deviceReset_endsListed s
  | rstRelease => exact rstRelease_endsListed s
  | reload => exact reload_endsListed s
  | loadComplete memory => exact loadComplete_endsListed memory s
  | framePulse holdoff order => exact framePulse_endsListed holdoff order s
  | internalFrameCountdown holdoff order => exact internalFrameCountdown_endsListed holdoff order s
  | cadenceExpiry => exact endsListed_next (takeExpiry_keepsList .cadence s)
  | prepareTimeout => exact endsListed_next (takeExpiry_keepsList .prepareTimeout s)
  | settleEnd => exact endsListed_next (takeExpiry_keepsList .settleEnd s)
  | holdExpiry e => exact endsListed_next (takeExpiry_keepsList (.hold e) s)
  | lapse e => exact endsListed_next (takeExpiry_keepsList (.lapse e) s)
  | paceExpiry t => exact endsListed_next (takeExpiry_keepsList (.pace t) s)
  | ackWaitExpiry => exact endsListed_next (takeExpiry_keepsList .ackWait s)
  | recoveryCountdownExpiry t => exact endsListed_next (takeExpiry_keepsList (.recovery t) s)
  | malformedFrame t bytes => exact malformedFrame_endsListed t bytes s
  | requestAccepted t r => exact requestAccepted_endsListed t r s
  | arbiterGrant => exact endsListed_settled grantEngine_listOk s
  | place => exact endsListed_settled (completeFor_listOk evalPlace_keepsList) s
  | release => exact endsListed_settled (completeFor_listOk fun {p _} _ t x => evalRelease_keepsList p t x _) s
  | withdraw => exact endsListed_settled (completeFor_listOk fun {p _} _ t x => evalWithdraw_keepsList p t x _) s
  | querySpan => exact endsListed_settled (completeFor_listOk fun {p _} _ t x => evalQuerySpan_keepsList p t x _) s
  | queryMap => exact endsListed_settled (completeFor_listOk fun {p _} _ t x => evalQueryMap_keepsList p t x _) s
  | ready => exact endsListed_settled (completeFor_listOk fun {p _} _ t x => evalReady_keepsList p t x _) s
  | refuse => exact endsListed_settled (completeFor_listOk fun {p _} _ t x => evalRefuse_keepsList p t x _) s
  | sweepStep => exact endsListed_settled sweepStep_listOk s
  | status t => exact endsListed_kept (takeNow_keepsList (fun _ => keepsList_of_same rfl) t .status) s
  | mode t target => exact endsListed_kept (takeNow_keepsList (actMode_keepsList t target) t .mode) s
  | trigger t => exact endsListed_kept (takeNow_keepsList (actTrigger_keepsList t) t .trigger) s
  | readLog t start limit => exact endsListed_kept (takeNow_keepsList (actReadLog_keepsList start limit) t .readLog) s
  | recover t => exact endsListed_kept (takeNow_keepsList (actRecover_keepsList t) t .recover) s
  | readNotice t => exact endsListed_kept (takeNow_keepsList (actReadNotice_keepsList t) t .readNotice) s
  | setNoticeMask t mask =>
    exact endsListed_kept (takeNow_keepsList (fun _ => keepsList_of_same rfl) t .setNoticeMask) s
  | fetch t count => exact fetch_endsListed t count s
  | portReset t => exact portReset_endsListed t s
  | portResetRelease t => exact portResetRelease_endsListed t s
  | imageSendEnd => exact endsListed_kept endImageSend_keepsList s
  | transmitFrameDone => exact endsListed_kept endFrameSend_keepsList s
  | ack epoch send => exact endsListed_kept (takeAck_keepsList epoch send) s
  | nak epoch send => exact endsListed_kept (takeNak_keepsList epoch send) s
  | plrxFrameDiscard bytes => exact endsListed_next (settleDue_keepsList s)
  | measurementReport bytes strayBits => exact endsListed_kept (arriveReport_keepsList bytes strayBits) s
  | reportEvaluationBegin => exact reportEvaluationBegin_endsListed s
  | reportEvaluation => exact reportEvaluation_endsListed s
  | chipSelectAsserted t => exact chipSelect_endsListed t s
  | reportTransferBegin =>
    exact endsListed_kept (f := fun s => { s with transfer := some s.mready }) (fun _ => keepsList_of_same rfl) s

/-- Settles O52: an entry waits no more exactly as it leaves the list, and joins it as it begins to wait. -/
theorem stepKeepsList : Obligations.StepKeepsList := by
  intro s t ok hstep
  unfold step at hstep
  split at hstep
  · cases hstep
    exact ok
  · next c rest _ =>
    obtain ⟨u, heq, hu⟩ := exec_endsListed c { s with pending := rest }
    cases heq.symm.trans hstep
    exact hu (listOk_of_same (s := s) (u := { s with pending := rest }) rfl ok)

end Sys2Proof.Proofs
end

section
/-! PROOFS. The answers to a batch, and what follows when the last of them has come in (R104 to R108, R111, R124). -/

namespace Sys2Proof.Proofs

open Machine Safety Laws

/-! ### Lives that change within one set -/

theorem table_any_iff (s : State) (test : Entry → Bool) : s.table.toList.any test = true ↔ ∃ e, test (s.entry e) = true := by
  simp only [table_toList, List.any_map, List.any_eq_true, Function.comp_apply]
  exact ⟨fun ⟨e, _, h⟩ => ⟨e, h⟩, fun ⟨e, h⟩ => ⟨e, List.mem_finRange e, h⟩⟩

/-- A life that is loaded and counted as before adds to every sum what it did. -/
theorem sums_kept {l l' : Life} (loaded : l'.loaded? = l.loaded?) (counted : l'.counted? = l.counted?) :
    (∀ d, l'.loadIn d = l.loadIn d) ∧ (∀ t d, l'.heldIn t d = l.heldIn t d) ∧ ∀ t, l'.countIn t = l.countIn t := by
  simp [Life.loadIn, Life.heldIn, Life.countIn, loaded, counted]

/-! ### A tenant's part of the batch returns (R106) -/

/-- What a refusal makes of a life of its tenant's. -/
theorem returnedLife_getD (l : Life) : (returnedLife l).getD l = match l with
    | .adding a q _ _ _ => .staged a q
    | .dropping a q _ false => .retiring a q false
    | l => l := by
  cases l with
  | dropping a q b forced => cases forced <;> rfl
  | _ => rfl

theorem returnedLife_sums {l l' : Life} (h : returnedLife l = some l') :
    (∀ d, l'.loadIn d = l.loadIn d) ∧ (∀ t d, l'.heldIn t d = l.heldIn t d) ∧ ∀ t, l'.countIn t = l.countIn t := by
  unfold returnedLife at h
  split at h <;> cases h <;> exact sums_kept rfl rfl

/-- A withdrawal changes the table and the expected set alone: no sum moves. -/
theorem withdrawPart_table (t : Tenant) (s : State) :
    ∃ table, withdrawPart t s = { s with table := table, expected := s.expected.filter (· ≠ t) } := by
  have moved := mapLives_kept (fun _ l => if l.tenant? = some t then returnedLife l else none) s fun e l l' h => by
    split at h
    · exact returnedLife_sums h
    · cases h
  exact ⟨_, by rw [withdrawPart, moved]; rfl⟩

theorem withdrawPart_generation (t : Tenant) (s : State) (e : EntryIx) :
    ((withdrawPart t s).entry e).generation = (s.entry e).generation := (withdrawPart_moves t s).generation e

/-! ### READY and REFUSE (R104 to R106) -/

section
variable {s u : State} {p : Profile} {t : Tenant} {b : BitVec 16} {code : ResponseCode}

theorem ready_concludes (evaluating : Evaluating s p t (.ready b)) (answer : evalReady p t b s = (u, refusal code)) :
    exec .ready s = .next (concluded t .ready code .empty u) :=
  congrArg Host.Outcome.next (completeFor_concludes evaluating rfl answer)

theorem refuse_concludes (evaluating : Evaluating s p t (.refuse b)) (answer : evalRefuse p t b s = (u, refusal code)) :
    exec .refuse s = .next (concluded t .refuse code .empty u) :=
  congrArg Host.Outcome.next (completeFor_concludes evaluating rfl answer)

theorem batchCheck_stale (h : s.cycle ≠ .preparing ∨ b ≠ s.batch) (t : Tenant) : batchCheck t b s = some .stale := if_pos h

theorem batchCheck_notAffected (preparing : s.cycle = .preparing) (current : b = s.batch) (free : t ∉ s.expected) :
    batchCheck t b s = some .notAffected := by
  simp [batchCheck, preparing, current, free]

theorem batchCheck_passes (preparing : s.cycle = .preparing) (current : b = s.batch) (awaited : t ∈ s.expected) :
    batchCheck t b s = none := by
  simp [batchCheck, preparing, current, awaited]

theorem evalReady_refused (check : batchCheck t b s = some code) (p : Profile) : evalReady p t b s = (s, refusal code) := by
  simp only [evalReady, check]

theorem evalReady_taken (check : batchCheck t b s = none) (p : Profile) :
    evalReady p t b s = (proceed (credit t .readyCredit (leaveExpected t s)), refusal .ok) := by
  simp only [evalReady, check]

theorem evalRefuse_refused (check : batchCheck t b s = some code) (p : Profile) : evalRefuse p t b s = (s, refusal code) := by
  simp only [evalRefuse, check]

theorem evalRefuse_taken (check : batchCheck t b s = none) (p : Profile) :
    evalRefuse p t b s = (let charged := charge p t 2 .refusal (withdrawPart t s)
      (if charged.2 then purge t (proceed charged.1) else proceed charged.1, refusal .ok)) := by
  simp only [evalRefuse, check]

end

/-- Settles O30, from the tests of R104 (`batchCheck`) and what a withdrawal leaves. -/
theorem batchIsAnswered : Obligations.BatchIsAnswered := by
  refine ⟨fun s p t b yes evaluating => ?_, fun s t => ⟨?_, fun e => ⟨withdrawPart_generation t s e, fun other => ?_, fun own => ?_⟩⟩⟩
  · cases yes with
    | true =>
      have ready {code : ResponseCode} {u : State} : evalReady p t b s = (u, refusal code) →
        exec .ready s = .next (concluded t .ready code .empty u) := ready_concludes evaluating
      exact ⟨fun h => ready (evalReady_refused (batchCheck_stale h t) p),
        fun preparing current free => ready (evalReady_refused (batchCheck_notAffected preparing current free) p),
        fun preparing current awaited =>
          ⟨fun _ => ready (evalReady_taken (batchCheck_passes preparing current awaited) p), nofun⟩⟩
    | false =>
      have refuse {code : ResponseCode} {u : State} : evalRefuse p t b s = (u, refusal code) →
        exec .refuse s = .next (concluded t .refuse code .empty u) := refuse_concludes evaluating
      refine ⟨fun h => refuse (evalRefuse_refused (batchCheck_stale h t) p),
        fun preparing current free => refuse (evalRefuse_refused (batchCheck_notAffected preparing current free) p),
        fun preparing current awaited => ⟨nofun, fun _ => ?_⟩⟩
      have taken := evalRefuse_taken (batchCheck_passes preparing current awaited) p
      exact ⟨fun stays => refuse (by simp only [taken, stays, Bool.false_eq_true, if_false]),
        fun isolated => refuse (by simp only [taken, isolated, if_true])⟩
  · obtain ⟨table, frame⟩ := withdrawPart_table t s
    rw [frame]
  · rw [withdrawPart_life, if_neg other]
  · rw [withdrawPart_life, if_pos own]
    exact returnedLife_getD (s.life e)

/-! ### The expected set is empty (R108, R111, R124) -/

theorem any_inBatch_iff (s : State) :
    (s.table.toList.any fun e => e.life.inBatch?.isSome) = true ↔ ∃ e, ((s.life e).inBatch?).isSome = true :=
  table_any_iff s fun en => en.life.inBatch?.isSome

section
variable {s : State} (preparing : s.cycle = .preparing) (nobody : s.expected = [])
include preparing nobody

theorem proceed_batch (batch : ∃ e, ((s.life e).inBatch?).isSome = true) : proceed s = becomeArmed s := by
  rw [proceed, if_pos ⟨preparing, nobody⟩, if_pos ((any_inBatch_iff s).mpr batch)]

theorem proceed_empty (empty : ∀ e, (s.life e).inBatch? = none) : proceed s = batchEmpty s := by
  rw [proceed, if_pos ⟨preparing, nobody⟩, if_neg ((any_inBatch_iff s).not.mpr (by simp [empty]))]

end

/-- Settles O31. -/
theorem expectedSetEmpties : Obligations.ExpectedSetEmpties := by
  refine fun s => ⟨proceed_eq_self s, fun preparing nobody =>
    ⟨fun batch => ⟨batchImage s, proceed_batch preparing nobody batch, rfl, rfl, rfl, (batchImage_spans s).1, ?_⟩,
      proceed_empty preparing nobody⟩⟩
  refine (batchImage_spans s).2.trans (.of_eq (List.filterMap_congr fun e _ => ?_))
  cases s.life e <;> rfl

end Sys2Proof.Proofs
end

section
/-! PROOFS. The freeze, taken and empty (R99 to R102). -/

namespace Sys2Proof.Proofs

open Machine Safety Laws

/-! ### The batch a freeze forms (R101) -/

theorem frozenLife_getD (batch : BitVec 16) (l : Life) : (frozenLife batch l).getD l = match l with
    | .staged a q => .adding a q batch false false
    | .retiring a q f => .dropping a q batch f
    | l => l := by
  cases l <;> rfl

theorem frozenLife_sums {batch : BitVec 16} {l l' : Life} (h : frozenLife batch l = some l') :
    (∀ d, l'.loadIn d = l.loadIn d) ∧ (∀ t d, l'.heldIn t d = l.heldIn t d) ∧ ∀ t, l'.countIn t = l.countIn t := by
  unfold frozenLife at h
  split at h <;> cases h <;> exact sums_kept rfl rfl

/-- What a freeze makes of the flag, the batch number and the entries. -/
def batchFormed (s : State) : State :=
  mapLives (fun _ l => frozenLife (s.batch + 1) l) { s with trigger := false, batch := s.batch + 1 }

/-- The batch formed, and the answers to it awaited. -/
def batchCalled (s : State) : State :=
  { batchFormed s with expected := formExpected (batchFormed s), called := formExpected (batchFormed s) }

theorem batchFormed_table (s : State) :
    ∃ table, batchFormed s = { s with table := table, trigger := false, batch := s.batch + 1 } :=
  ⟨_, mapLives_kept (fun _ l => frozenLife (s.batch + 1) l) _ fun _ _ _ => frozenLife_sums⟩

theorem batchCalled_entry (s : State) (e : EntryIx) :
    (batchCalled s).entry e = { s.entry e with life := (frozenLife (s.batch + 1) (s.life e)).getD (s.life e) } := by
  have moved : (batchFormed s).entry e = _ := mapLives_entry _ _ e
  unfold batchCalled
  generalize batchFormed s = v at moved
  exact moved

/-! ### Who is called (R101) -/

theorem allTenants_ascending : allTenants.Pairwise fun x y => x.val < y.val := by decide

theorem mem_formExpected (s : State) (t : Tenant) : t ∈ formExpected s ↔
    (∃ e, (s.life e).tenant? = some t ∧ ((∃ a q b m f, s.life e = .adding a q b m f) ∨ ∃ a q b, s.life e = .dropping a q b false))
    ∧ ((s.port t).mode = .active ∨ (s.port t).mode = .paused) ∧ (s.record t).isolated = false := by
  simp [formExpected, mem_allTenants, owesAnswer_iff, calls?_iff, takesPart_iff, and_assoc]

theorem formExpected_called (s : State) : formExpected (batchCalled s) = formExpected (batchFormed s) := by
  unfold batchCalled
  generalize batchFormed s = v
  rfl

/-! ### The items of a PREPARE (R102) -/

theorem prepareItem_iff (e : EntryIx) (en : Entry) (i : PrepareItem) : prepareItem e en = some i ↔ i.index = e
    ∧ ∃ a q f, ((∃ b m, en.life = .adding a q b m f ∧ i.drop = false) ∨ ∃ b, en.life = .dropping a q b f ∧ i.drop = true)
      ∧ i.generation = en.generation ∧ i.direction = a.direction ∧ i.first = q.first ∧ i.width = a.width
      ∧ i.density = q.density ∧ i.forced = f := by
  constructor
  · intro h
    unfold prepareItem at h
    split at h
    · next a q b m f life =>
      cases h
      exact ⟨rfl, a, q, f, .inl ⟨b, m, life, rfl⟩, rfl, rfl, rfl, rfl, rfl, rfl⟩
    · next a q b f life =>
      cases h
      exact ⟨rfl, a, q, f, .inr ⟨b, life, rfl⟩, rfl, rfl, rfl, rfl, rfl, rfl⟩
    all_goals cases h
  · obtain ⟨index, generation, drop, direction, first, width, density, forced⟩ := i
    rintro ⟨rfl, a, q, f, ⟨b, m, life, rfl⟩ | ⟨b, life, rfl⟩, rfl, rfl, rfl, rfl, rfl, rfl⟩ <;> simp [prepareItem, life]

theorem mem_prepareItems (s : State) (t : Tenant) (i : PrepareItem) : i ∈ s.prepareItems t ↔ ∃ a q f, a.tenant = t
    ∧ ((∃ b m, s.life i.index = .adding a q b m f ∧ i.drop = false) ∨ ∃ b, s.life i.index = .dropping a q b f ∧ i.drop = true)
    ∧ i.generation = (s.entry i.index).generation ∧ i.direction = a.direction ∧ i.first = q.first ∧ i.width = a.width
    ∧ i.density = q.density ∧ i.forced = f := by
  have found : i ∈ s.prepareItems t ↔ (s.life i.index).tenant? = some t ∧ prepareItem i.index (s.entry i.index) = some i := by
    simp only [State.prepareItems, List.mem_filterMap, Option.ite_none_right_eq_some]
    refine ⟨fun ⟨e, _, own, item⟩ => ?_, fun h => ⟨_, List.mem_finRange _, h⟩⟩
    obtain rfl := ((prepareItem_iff e _ i).mp item).1
    exact ⟨own, item⟩
  rw [found, prepareItem_iff]
  constructor
  · rintro ⟨own, _, a, q, f, state, fields⟩
    refine ⟨a, q, f, ?_, state, fields⟩
    rcases state with ⟨b, m, life, _⟩ | ⟨b, life, _⟩ <;> simpa [State.life, life, Life.tenant?, Life.asked?] using own
  · rintro ⟨a, q, f, rfl, state, fields⟩
    refine ⟨?_, rfl, a, q, f, state, fields⟩
    rcases state with ⟨b, m, life, _⟩ | ⟨b, life, _⟩ <;> simp [life, Life.tenant?, Life.asked?]

theorem prepareItems_ascending (s : State) (t : Tenant) :
    (s.prepareItems t).Pairwise fun i j => i.index.val < j.index.val := by
  refine List.Pairwise.filterMap _ (fun e e' before i hi j hj => ?_) (List.pairwise_lt_finRange 256)
  simp only [Option.ite_none_right_eq_some] at hi hj
  rw [((prepareItem_iff e _ i).mp hi.2).1, ((prepareItem_iff e' _ j).mp hj.2).1]
  exact before

/-! ### The freeze (R99, R100) -/

theorem hasFreezable_iff (s : State) : s.hasFreezable = true
    ↔ ∃ e a q, s.life e = .staged a q ∨ ∃ f, s.life e = .retiring a q f := by
  rw [State.hasFreezable, table_any_iff]
  refine exists_congr fun e => ?_
  change (frozenLife 0 (s.life e)).isSome = true ↔ _
  cases s.life e <;> simp [frozenLife]

/-- The PREPAREs look at the batch and its entries, which none of them changes, and not at the cycle. -/
theorem foldl_prepare (ts : List Tenant) (left : Option Nat) (cycle : CycleState) (s : State) :
    { ts.foldl (fun v t => issue t (.prepare v.batch (v.prepareItems t)) v) s with prepareLeft := left, cycle := cycle }
      = ts.foldl (fun v t => issue t (.prepare s.batch (s.prepareItems t)) v) { s with prepareLeft := left, cycle := cycle } := by
  induction ts generalizing s with
  | nil => rfl
  | cons t ts ih =>
    rw [List.foldl_cons, List.foldl_cons]
    exact ih (issue t (.prepare s.batch (s.prepareItems t)) s)

section
variable {s : State} (freezable : s.hasFreezable = true)
include freezable

theorem freeze_nobody (nobody : formExpected (batchFormed s) = []) (p : Profile) :
    freeze p s = becomeArmed (batchCalled s) := by
  rw [freeze, if_pos freezable, batchCalled]
  refine (if_pos nobody).trans ?_
  unfold batchFormed at nobody ⊢
  rw [nobody]
  rfl

theorem freeze_called (called : formExpected (batchFormed s) ≠ []) (p : Profile) :
    freeze p s = (formExpected (batchFormed s)).foldl
      (fun v t => issue t (.prepare (batchCalled s).batch ((batchCalled s).prepareItems t)) v)
      { batchCalled s with prepareLeft := some p.prepareFrames, cycle := .preparing } := by
  rw [freeze, if_pos freezable, ← foldl_prepare]
  exact if_neg called

end

theorem freeze_nothing {s : State} (nothing : ¬ s.hasFreezable = true) (p : Profile) : freeze p s = { s with trigger := false } :=
  if_neg nothing

theorem cycleTest_called {s : State} (h : s.trigger = true) (p : Profile) : cycleTest p .quiet false s = freeze p s := by
  simp [cycleTest, h]

theorem cycleTest_uncalled {s : State} (h : s.trigger = false) (p : Profile) : cycleTest p .quiet false s = s := by
  simp [cycleTest, h]

/-- Settles O37, from the batch formed (`batchFormed`) and who is called to answer for it. -/
theorem freezeTaken : Obligations.FreezeTaken := by
  refine fun s p => ⟨fun h => cycleTest_called h p, fun h => cycleTest_uncalled h p, fun found => ?_⟩
  have freezable := (hasFreezable_iff s).mpr found
  obtain ⟨table, formed⟩ := batchFormed_table s
  refine ⟨batchCalled s, formExpected (batchFormed s), ?_, fun e => ⟨?_, ?_⟩,
    allTenants_ascending.filter _, fun t => ?_, fun nobody => ?_, fun called => freeze_called freezable called p,
    fun t => ⟨prepareItems_ascending _ t, mem_prepareItems _ t⟩⟩
  · rw [batchCalled, formed]
  · rw [batchCalled_entry]
  · rw [State.life, batchCalled_entry]
    exact frozenLife_getD (s.batch + 1) (s.life e)
  · have port : (batchCalled s).port t = s.port t := by rw [batchCalled, formed]; rfl
    have record : (batchCalled s).record t = s.record t := by rw [batchCalled, formed]; rfl
    rw [← formExpected_called, mem_formExpected, port, record]
  · rw [freeze_nobody freezable nobody, becomeArmed, batchCalled, nobody]

/-- Settles O38. -/
theorem emptyFreeze : Obligations.EmptyFreeze := by
  refine fun s p unstaged unretired called => ⟨?_, fun u h => cycleTest_uncalled h p⟩
  rw [cycleTest_called called, freeze_nothing]
  rw [hasFreezable_iff]
  rintro ⟨e, a, q, staged | ⟨f, retiring⟩⟩
  · exact unstaged e a q staged
  · exact unretired e a q f retiring

end Sys2Proof.Proofs
end

section
/-! PROOFS. An abandonment, and the expiries that move the cycle: prepare timeout, settle end and acknowledgement wait (R107, R114,
R117, R118, R127, R129). -/

namespace Sys2Proof.Proofs

open Machine Safety Laws

/-! ### The abandonment (R114) -/

theorem abandonedLife_getD (l : Life) : (abandonedLife l).getD l = match l with
    | .adding a q _ false _ => .staged a q
    | .adding _ _ _ true _ => .free
    | .dropping a q _ forced => .retiring a q forced
    | l => l := by
  cases l with
  | adding a q b mark forced => cases mark <;> rfl
  | _ => rfl

/-- What an abandonment makes of the state but for its notices and its sweep request. -/
def batchReturned (s : State) : State := { mapLives (fun _ l => abandonedLife l) s with cycle := .quiet, trigger := true }

/-- ABANDONED has gone to every ACTIVE or PAUSED port. -/
def abandonedTold (epoch : BitVec 32) (s : State) : State :=
  issueAll s.takingPart (.abandoned s.batch (some epoch)) (batchReturned s)

theorem abandon_eq (epoch : BitVec 32) (s : State) : abandon epoch s
    = if s.table.toList.any fun e => e.life.isMarked then requestSweep (abandonedTold epoch s) else abandonedTold epoch s := by
  obtain ⟨_, _, _, _, frame⟩ := mapLives_frame (fun _ l => abandonedLife l) s
  unfold abandon abandonedTold batchReturned
  rw [frame]
  rfl

theorem batchReturned_frame (s : State) : ∃ table load held count, batchReturned s
    = { s with table := table, load := load, held := held, entryCount := count, cycle := .quiet, trigger := true } := by
  obtain ⟨a, b, c, d, frame⟩ := mapLives_frame (fun _ l => abandonedLife l) s
  exact ⟨a, b, c, d, by rw [batchReturned, frame]⟩

theorem batchReturned_entry (s : State) (e : EntryIx) :
    (batchReturned s).entry e = { s.entry e with life := (abandonedLife (s.life e)).getD (s.life e) } := by
  have moved := mapLives_entry (fun _ l => abandonedLife l) s e
  unfold batchReturned
  generalize mapLives (fun _ l => abandonedLife l) s = v at moved
  exact moved

theorem batchReturned_sumsMatch {s : State} (sums : SumsMatch s) : SumsMatch (batchReturned s) := by
  have moved := mapLives_sumsMatch (fun _ l => abandonedLife l) sums
  unfold batchReturned
  generalize mapLives (fun _ l => abandonedLife l) s = v at moved
  exact sumsMatch_of_same (s := v) rfl rfl rfl rfl moved

theorem any_marked_iff (s : State) : (s.table.toList.any fun e => e.life.isMarked) = true
    ↔ ∃ e a q b forced, s.life e = .adding a q b true forced := by
  rw [table_any_iff]
  refine exists_congr fun e => ?_
  change (s.life e).isMarked = true ↔ _
  cases s.life e <;> simp [Life.isMarked]

/-- Settles O42, from the abandonment with its notices apart (`abandon_eq`). -/
theorem abandonmentReturns : Obligations.AbandonmentReturns := by
  intro s epoch
  refine ⟨batchReturned s, ?_, batchReturned_sumsMatch, fun e => ⟨?_, ?_⟩, fun marked => ?_, fun unmarked => ?_⟩
  · obtain ⟨_, _, _, _, frame⟩ := batchReturned_frame s
    rw [frame]
  · rw [batchReturned_entry]
  · rw [State.life, batchReturned_entry]
    exact abandonedLife_getD (s.life e)
  · rw [abandon_eq, if_pos ((any_marked_iff s).mpr marked)]
    rfl
  · rw [abandon_eq, if_neg ((any_marked_iff s).not.mpr fun ⟨e, a, q, b, forced, h⟩ => unmarked e a q b forced h)]
    rfl

/-! ### The prepare timeout (R107) -/

/-- Several tenants' parts of the batch return, one after the other. -/
def withdrawAll (late : List Tenant) (s : State) : State := late.foldl (fun s t => withdrawPart t s) s

theorem withdrawAll_cons (t : Tenant) (late : List Tenant) (s : State) :
    withdrawAll (t :: late) s = withdrawAll late (withdrawPart t s) := by
  rw [withdrawAll, withdrawAll, List.foldl_cons]

theorem withdrawAll_table (late : List Tenant) (s : State) :
    ∃ table, withdrawAll late s = { s with table := table, expected := s.expected.filter (· ∉ late) } := by
  induction late generalizing s with
  | nil => exact ⟨s.table, by simp [withdrawAll]⟩
  | cons t late ih =>
    obtain ⟨_, first⟩ := withdrawPart_table t s
    obtain ⟨table, rest⟩ := ih (withdrawPart t s)
    refine ⟨table, ?_⟩
    rw [withdrawAll_cons, rest, first]
    simp [List.filter_filter, Bool.and_comm]

theorem withdrawAll_generation (late : List Tenant) (s : State) (e : EntryIx) :
    ((withdrawAll late s).entry e).generation = (s.entry e).generation :=
  (foldl_moves _ (fun s t => withdrawPart_moves t s) late s).generation e

/-- What has been returned stays its tenant's, and a second return finds nothing to move. -/
theorem returnedLife_twice (l : Life) : ((returnedLife l).getD l).tenant? = l.tenant?
    ∧ (returnedLife ((returnedLife l).getD l)).getD ((returnedLife l).getD l) = (returnedLife l).getD l := by
  cases l with
  | dropping a q b forced => cases forced <;> exact ⟨rfl, rfl⟩
  | _ => exact ⟨rfl, rfl⟩

theorem withdrawAll_other {late : List Tenant} {s : State} {e : EntryIx} (others : ∀ t, (s.life e).tenant? = some t → t ∉ late) :
    (withdrawAll late s).life e = s.life e := by
  induction late generalizing s with
  | nil => rfl
  | cons t late ih =>
    have other : (s.life e).tenant? ≠ some t := fun own => others t own List.mem_cons_self
    have first : (withdrawPart t s).life e = s.life e := by rw [withdrawPart_life, if_neg other]
    rw [withdrawAll_cons, ih fun u owner mem => others u (first ▸ owner) (List.mem_cons_of_mem t mem), first]

theorem withdrawAll_own {late : List Tenant} {s : State} {e : EntryIx} {t : Tenant} (own : (s.life e).tenant? = some t)
    (mem : t ∈ late) : (withdrawAll late s).life e = (returnedLife (s.life e)).getD (s.life e) := by
  induction late generalizing s with
  | nil => cases mem
  | cons x late ih =>
    obtain ⟨tenant, twice⟩ := returnedLife_twice (s.life e)
    rw [withdrawAll_cons]
    by_cases same : x = t
    · subst same
      have first : (withdrawPart x s).life e = (returnedLife (s.life e)).getD (s.life e) := by rw [withdrawPart_life, if_pos own]
      by_cases again : x ∈ late
      · rw [ih (by rw [first, tenant, own]) again, first, twice]
      · rw [withdrawAll_other fun u owner => ?_, first]
        rw [first, tenant, own] at owner
        cases owner
        exact again
    · have first : (withdrawPart x s).life e = s.life e := by
        rw [withdrawPart_life, if_neg fun owner => same (Option.some.inj (owner.symm.trans own))]
      rw [ih (by rw [first, own]) ((List.mem_cons.mp mem).resolve_left (Ne.symm same)), first]

theorem timeOut_eq (p : Profile) (s : State) : timeOut p s
    = (let charged := chargeAll p 8 .timeout s.expected (withdrawAll s.expected s)
       purgeAll charged.2 (proceed charged.1)) := by
  unfold timeOut
  dsimp only
  rw [charge_foldl]
  rfl

theorem prepareOut_at {s : State} (preparing : s.cycle = .preparing) (out : s.prepareLeft = some 0) (p : Profile) :
    prepareOut p s = timeOut p s := if_pos ⟨preparing, out⟩

/-! ### The settle end (R118) -/

theorem cooledLife_getD (l : Life) : (cooledLife l).getD l = match l with
    | .cooling _ _ _ => .free
    | l => l := by
  cases l <;> rfl

/-- What the settle end makes of the state but for its sweep request. -/
def settledDown (s : State) : State :=
  { mapLives (fun _ l => cooledLife l) s with changed := [], settleLeft := none, cycle := .quiet }

theorem settledDown_frame (s : State) : ∃ table load held count, settledDown s
    = { s with table := table, load := load, held := held, entryCount := count, changed := [], settleLeft := none
               cycle := .quiet } := by
  obtain ⟨a, b, c, d, frame⟩ := mapLives_frame (fun _ l => cooledLife l) s
  exact ⟨a, b, c, d, by rw [settledDown, frame]⟩

theorem settledDown_entry (s : State) (e : EntryIx) :
    (settledDown s).entry e = { s.entry e with life := (cooledLife (s.life e)).getD (s.life e) } := by
  have moved := mapLives_entry (fun _ l => cooledLife l) s e
  unfold settledDown
  generalize mapLives (fun _ l => cooledLife l) s = v at moved
  exact moved

theorem settledDown_sumsMatch {s : State} (sums : SumsMatch s) : SumsMatch (settledDown s) := by
  have moved := mapLives_sumsMatch (fun _ l => cooledLife l) sums
  unfold settledDown
  generalize mapLives (fun _ l => cooledLife l) s = v at moved
  exact sumsMatch_of_same (s := v) rfl rfl rfl rfl moved

theorem settleOut_at {s : State} (settling : s.cycle = .settling) (out : s.settleLeft = some 0) :
    settleOut s = requestSweep (settledDown s) :=
  (if_pos ⟨settling, out⟩).trans (endSettle_eq s)

/-! ### The acknowledgement wait (R127, R129) -/

theorem ackWaitOut_at {s : State} {f : Flight} (wait : s.link = .waitAck) (flying : s.inFlight = some f)
    (out : s.ackWait = some Config.ackWaitMax) : ackWaitOut s = imageFailed f (handCancel f s) := by
  simp [ackWaitOut, wait, flying, out]

theorem imageFailed_batch {f : Flight} (batch : f.image.kind = .batch) (s : State) :
    imageFailed f s = abandon f.image.epoch (giveUp s) := by
  simp only [imageFailed, batch]

theorem imageFailed_startUp {f : Flight} (startUp : f.image.kind = .startUp) (s : State) :
    imageFailed f s = handImage f.image s := by
  simp only [imageFailed, startUp]

/-! ### Expiries by their own rows -/

section
variable {s : State} {it : FrameItem} {c : Instr} (row : exec c s = .next (takeExpiry it s))
include row

/-- The row of an expiry that is due is its effect (log entry 2). -/
theorem expiry_due {p : Profile} {u : State} (running : s.device = .running p) (mem : it ∈ s.due)
    (effect : expire p it { s with due := s.due.erase it } = u) : exec c s = .next u := by
  rw [row, takeExpiry_due it s p running mem, effect]

/-- The row of an expiry that is not due changes nothing (log entry 6). -/
theorem expiry_notDue (out : it ∉ s.due) : exec c s = .next s := by
  rw [row, takeExpiry_not_due it s out]

end

/-- Settles O41, from what each expiry finds when it is due. -/
theorem cycleExpiriesTaken : Obligations.CycleExpiriesTaken := by
  intro s p running left
  refine ⟨fun mem preparing out => ?_, fun mem settling out => ?_, fun f mem wait flying out => ?_,
    expiry_notDue rfl, expiry_notDue rfl, expiry_notDue rfl⟩
  · refine ⟨withdrawAll s.expected (left .prepareTimeout), ?_, withdrawAll_generation _ _, fun e t own late => ?_,
      fun e others => withdrawAll_other (s := left .prepareTimeout) others, expiry_due rfl running mem ?_⟩
    · obtain ⟨table, frame⟩ := withdrawAll_table s.expected (left .prepareTimeout)
      rw [frame]
      simp [left]
    · rw [withdrawAll_own (s := left .prepareTimeout) own late]
      exact returnedLife_getD (s.life e)
    · exact (prepareOut_at (s := left .prepareTimeout) preparing out p).trans (timeOut_eq p _)
  · refine ⟨settledDown (left .settleEnd), ?_, fun sums => settledDown_sumsMatch ?_, fun e => ⟨?_, ?_⟩,
      expiry_due rfl running mem (settleOut_at (s := left .settleEnd) settling out)⟩
    · obtain ⟨_, _, _, _, frame⟩ := settledDown_frame (left .settleEnd)
      rw [frame]
    · exact sumsMatch_of_same (s := s) (u := left .settleEnd) rfl rfl rfl rfl sums
    · rw [settledDown_entry]
      rfl
    · rw [State.life, settledDown_entry]
      exact cooledLife_getD (s.life e)
  · have failed := ackWaitOut_at (s := left .ackWait) wait flying out
    exact ⟨fun batch => expiry_due rfl running mem (failed.trans (imageFailed_batch batch _)),
      fun startUp => expiry_due rfl running mem (failed.trans (imageFailed_startUp startUp _))⟩

end Sys2Proof.Proofs
end

section
/-! PROOFS. TRIGGER (R97). -/

namespace Sys2Proof.Proofs

open Machine Safety Laws

/-- A request that every check passes is taken on the state its acceptance leaves, and answered in the same step (R169). -/
theorem takeNow_taking {s : State} {p : Profile} {t : Tenant} {k : FrameKind} (h : Taking s p t k) (act : State → State × Answer) :
    takeNow t k act s = (let taken := act (accept t (k.length.getD 0) s)
      respond t k taken.2 taken.1) := by
  have passes (q : Port) (mode : q.mode = (s.port t).mode) : requestCheck t k (s.setPort t q) = none := by
    rw [requestCheck_setPort s t k q mode]
    simp [requestCheck, deviceState_running h.running, h.notIsolated, h.allowed]
  have accepted : (endRequestFrame t (k.length.getD 0) s).setPort t
      { (endRequestFrame t (k.length.getD 0) s).port t with response := none } = accept t (k.length.getD 0) s := by
    simp [endRequestFrame, accept]
  rw [takeNow_eq t k act s h.awake h.empty, accepted]
  rw [accepted]
  exact passes _ rfl

theorem exec_trigger {s : State} {p : Profile} {t : Tenant} (h : Taking s p t .trigger) : exec (.trigger t) s
    = .next (let taken := actTrigger t (accept t 1 s)
      respond t .trigger taken.2 taken.1) := by
  rw [exec, execTrigger, settleDue_settled s h.settled, takeNow_taking h]
  rfl

section
variable {s : State} {p : Profile} {t : Tenant} (running : s.device = .running p)
include running

theorem actTrigger_sets (may : (p.tenant t).mayTrigger = true) (source : p.triggerSource ≠ .cadence) :
    actTrigger t s = ({ s with trigger := true }, refusal .ok) := by
  simp [actTrigger, profile?_of_running running, may, source]

theorem actTrigger_noTrigger (h : ¬ ((p.tenant t).mayTrigger = true ∧ p.triggerSource ≠ .cadence)) :
    actTrigger t s = (s, refusal .noTrigger) := by
  simp only [actTrigger, profile?_of_running running, if_neg h]

end

theorem source_iff (x : TriggerSource) : x = .demand ∨ x = .both ↔ x ≠ .cadence := by cases x <;> simp

/-- Settles O10. -/
theorem triggerCalls : Obligations.TriggerCalls := by
  intro s p t taking
  rw [source_iff, exec_trigger taking]
  have running : (accept t 1 s).device = .running p := taking.running
  refine ⟨fun ⟨may, source⟩ => ?_, fun h => ?_⟩
  · rw [actTrigger_sets running may source]
    simp [respond, refusal, accept, answered, State.port, State.setPort]
  · rw [actTrigger_noTrigger running h]
    simp [respond, refusal, accept, answered]

end Sys2Proof.Proofs
end

section
/-! PROOFS. The plan link: frames wholly sent, and the answers to the image in flight (R123, R125, R126, R129, R177). -/

namespace Sys2Proof.Proofs

open Machine Safety Laws

/-! ### Frames wholly sent (R123, R129) -/

theorem endImageSend_image {s : State} {f : Flight} {rest : List OutFrame} (head : s.transmit = .image f :: rest) :
    endImageSend s = { s with
      transmit := rest, pltx := (OutFrame.image f).bytes, link := .waitAck, ackWait := some 0 } := by
  simp only [endImageSend, head]

theorem endFrameSend_other {s : State} {g : OutFrame} {rest : List OutFrame} (head : s.transmit = g :: rest)
    (other : OutFrame.isImage g = false) :
    endFrameSend s = handWaiting { s with transmit := rest, pltx := g.bytes } := by
  cases g with
  | image f => cases other
  | apply epoch send => simp only [endFrameSend, head]
  | cancel epoch send => simp only [endFrameSend, head]

theorem handWaiting_none {s : State} (vacant : s.startUpWaiting = none) : handWaiting s = s := by
  unfold handWaiting
  split
  · next waiting => cases vacant.symm.trans waiting
  · rfl

/-- An image handed over with the transmit order empty is alone in it. -/
theorem handImage_alone {s : State} (empty : s.transmit = []) (image : PlanImage) : handImage image s = { s with
    sendNumber := s.sendNumber + 1, inFlight := some ⟨image, s.sendNumber + 1⟩
    transmit := [.image ⟨image, s.sendNumber + 1⟩], link := .sending, ackWait := none } := by
  simp [handImage, empty]

section
variable {s : State} {g : OutFrame} {rest : List OutFrame} (head : s.transmit = g :: rest) (other : OutFrame.isImage g = false)
include head other

theorem endFrameSend_leaves (later : rest ≠ [] ∨ s.startUpWaiting = none) :
    endFrameSend s = { s with transmit := rest, pltx := g.bytes } := by
  rw [endFrameSend_other head other]
  rcases later with behind | vacant
  · exact handWaiting_later behind
  · exact handWaiting_none vacant

theorem endFrameSend_hands {image : PlanImage} (empty : rest = []) (waiting : s.startUpWaiting = some image) :
    endFrameSend s = handImage image { s with transmit := rest, pltx := g.bytes, startUpWaiting := none } :=
  (endFrameSend_other head other).trans (handWaiting_now empty waiting)

end

/-! ### Answers (R125, R126) -/

/-- An answer that is not to the image in flight, if there is one. -/
def Unmatched (epoch : BitVec 32) (send : Byte) (s : State) : Prop :=
  ∀ f, s.inFlight = some f → f.image.epoch ≠ epoch ∨ f.send ≠ send

theorem answers_own (f : Flight) : answers f.image.epoch f.send f = true := by simp [answers]

theorem answers_of_unmatched {epoch : BitVec 32} {send : Byte} {s : State} {f : Flight} (unmatched : Unmatched epoch send s)
    (flying : s.inFlight = some f) : answers epoch send f = false := by
  rcases unmatched f flying with h | h <;> simp [answers, h]

theorem refuseImage_batch {f : Flight} (batch : f.image.kind = .batch) (s : State) :
    refuseImage f s = abandon f.image.epoch (giveUp s) := by
  simp only [refuseImage, batch, imageFailed_batch]

theorem refuseImage_startUp {f : Flight} (startUp : f.image.kind = .startUp) (s : State) :
    refuseImage f s = handImage f.image (handCancel f s) := by
  simp only [refuseImage, startUp, imageFailed_startUp]

section
variable {s : State} {p : Profile} {f : Flight} (running : s.device = .running p) (flying : s.inFlight = some f)
include running flying

theorem takeAck_own (wait : s.link = .waitAck) :
    takeAck f.image.epoch f.send s = { s with link := .acked, ackWait := none } := by
  simp only [takeAck, profile?_of_running running, wait, flying, answers_own, if_true]

theorem takeNak_own (sent : s.link = .waitAck ∨ s.link = .acked) :
    takeNak f.image.epoch f.send s = refuseImage f s := by
  rcases sent with link | link <;>
    simp only [takeNak, profile?_of_running running, link, flying, answers_own, if_true]

end

section
variable {epoch : BitVec 32} {send : Byte} {s : State}

theorem takeAck_ignored (h : s.link ≠ .waitAck ∨ Unmatched epoch send s) : takeAck epoch send s = s := by
  unfold takeAck
  split
  · next link flying =>
    have unmatched := h.resolve_left (not_not_intro link)
    simp [answers_of_unmatched unmatched flying]
  · rfl

theorem takeNak_ignored (h : (s.link ≠ .waitAck ∧ s.link ≠ .acked) ∨ Unmatched epoch send s) : takeNak epoch send s = s := by
  have ignored {f : Flight} (sent : s.link = .waitAck ∨ s.link = .acked) (flying : s.inFlight = some f) :
      (if answers epoch send f then refuseImage f s else s) = s := by
    have unmatched := h.resolve_left fun ⟨notWaiting, notAcked⟩ => sent.elim notWaiting notAcked
    simp [answers_of_unmatched unmatched flying]
  unfold takeNak
  split
  · next link flying => exact ignored (.inl link) flying
  · next link flying => exact ignored (.inr link) flying
  · rfl

end

/-! ### The rows on a settled state -/

section
variable {s : State} (settled : Settled s)
include settled

theorem exec_imageSendEnd : exec .imageSendEnd s = .next (endImageSend s) := by
  rw [exec, execImageSendEnd, settleDue_settled s settled]

theorem exec_transmitFrameDone : exec .transmitFrameDone s = .next (endFrameSend s) := by
  rw [exec, execTransmitFrameDone, settleDue_settled s settled]

theorem exec_ack (epoch : BitVec 32) (send : Byte) : exec (.ack epoch send) s = .next (takeAck epoch send s) := by
  rw [exec, execAck, settleDue_settled s settled]

theorem exec_nak (epoch : BitVec 32) (send : Byte) : exec (.nak epoch send) s = .next (takeNak epoch send s) := by
  rw [exec, execNak, settleDue_settled s settled]

theorem exec_plrxFrameDiscard (bytes : List Byte) : exec (.plrxFrameDiscard bytes) s = .next s := by
  rw [exec, execPlrxFrameDiscard, settleDue_settled s settled]

end

/-- Settles O43, by what each row finds in the transmit order, the link state and the image in flight. -/
theorem planLinkExchanges : Obligations.PlanLinkExchanges := by
  intro s settled
  refine ⟨fun f rest head => ?_, fun g rest head other => ⟨fun later => ?_, fun image empty waiting => ?_⟩,
    fun p f running flying => ⟨fun wait => ?_, fun sent => ⟨fun batch => ?_, fun startUp => ?_⟩⟩,
    fun epoch send => ⟨fun h => ?_, fun h => ?_⟩, exec_plrxFrameDiscard settled⟩
  · rw [exec_imageSendEnd settled, endImageSend_image head]
  · rw [exec_transmitFrameDone settled, endFrameSend_leaves head other later]
  · rw [exec_transmitFrameDone settled, endFrameSend_hands head other empty waiting, handImage_alone empty]
  · rw [exec_ack settled, takeAck_own running flying wait]
  · rw [exec_nak settled, takeNak_own running flying sent, refuseImage_batch batch]
    rfl
  · rw [exec_nak settled, takeNak_own running flying sent, refuseImage_startUp startUp]
    rfl
  · rw [exec_ack settled, takeAck_ignored h]
  · rw [exec_nak settled, takeNak_ignored h]

end Sys2Proof.Proofs
end

section
/-! PROOFS. The shared operations, the expiries and the frame event leave the Spectrum Monitor as it was and no notice queue beyond its
bound: one lemma for each, on the relation `KeepsQueues`. -/

namespace Sys2Proof.Proofs

open Machine Safety Laws

/-! ### The relation -/

/-- The device and the Spectrum Monitor, the part of the state that the invariant rests on beside the ports (R131). -/
def monitorOf (s : State) := (s.device, s.reports, s.evaluating, s.log, s.logSeq, s.transfer)

/-- The device and the monitor stand, and no notice queue is longer than it was or than its bound (R131, R163). -/
structure KeepsQueues (s u : State) : Prop where
  monitor : monitorOf u = monitorOf s
  queues  : ∀ t, (u.port t).queue.length ≤ max Config.queueMax (s.port t).queue.length

@[refl] theorem KeepsQueues.refl (s : State) : KeepsQueues s s := ⟨rfl, fun _ => le_max_right _ _⟩

theorem KeepsQueues.trans {s u v : State} (h : KeepsQueues s u) (g : KeepsQueues u v) : KeepsQueues s v :=
  ⟨g.monitor.trans h.monitor, fun t => (g.queues t).trans (max_le (le_max_left _ _) (h.queues t))⟩

theorem foldl_keepsQueues {α : Type} (f : State → α → State) (h : ∀ s x, KeepsQueues s (f s x)) (xs : List α) (s : State) :
    KeepsQueues s (xs.foldl f s) := by
  induction xs generalizing s with
  | nil => rfl
  | cons x xs ih => exact (h s x).trans (ih (f s x))

/-- An update that leaves device, monitor and ports: by `rfl` for each record update of the model. -/
theorem keepsQueues_of_same {s u : State} (h : (monitorOf u, u.ports) = (monitorOf s, s.ports)) : KeepsQueues s u := by
  obtain ⟨monitor, ports⟩ := Prod.mk.inj h
  exact ⟨monitor, fun t => by rw [State.port, ports]; exact le_max_right _ _⟩

theorem setPort_queues {s : State} {t : Tenant} {q : Port}
    (h : q.queue.length ≤ max Config.queueMax (s.port t).queue.length) : KeepsQueues s (s.setPort t q) := by
  refine ⟨rfl, fun u => ?_⟩
  rw [setPort_port_eq]
  split
  · next same => exact same ▸ h
  · exact le_max_right _ _

/-- A port replaced by one with the same queue, or with a part of it. -/
theorem setPort_keepsQueues {s : State} {t : Tenant} {q : Port} (h : q.queue.length ≤ (s.port t).queue.length) :
    KeepsQueues s (s.setPort t q) := setPort_queues (h.trans (le_max_right _ _))

/-! ### Notices (R162, R163) -/

/-- A notice joins a queue only where it holds fewer than 16 (R162). -/
theorem noted_queue (frame : BitVec 32) (body : NoticeBody) (p : Port) :
    (p.noted frame body).queue.length ≤ max Config.queueMax p.queue.length := by
  unfold Port.noted
  split
  · exact le_max_right _ _
  split
  · exact le_max_right _ _
  split
  · exact le_max_right _ _
  · next room =>
    rw [not_or, Nat.not_le] at room
    exact le_max_of_le_left (by simpa using room.2)

theorem issue_keepsQueues (t : Tenant) (body : NoticeBody) (s : State) : KeepsQueues s (issue t body s) :=
  setPort_queues (noted_queue _ _ _)

theorem issueAll_keepsQueues (ts : List Tenant) (body : NoticeBody) (s : State) : KeepsQueues s (issueAll ts body s) :=
  foldl_keepsQueues _ (fun s t => issue_keepsQueues t body s) ts s

/-! ### Entries, the list and the sets of the cycle -/

theorem setLife_keepsQueues (e : EntryIx) (l : Life) (s : State) : KeepsQueues s (setLife e l s) := keepsQueues_of_same rfl

theorem mapLives_keepsQueues (f : EntryIx → Life → Option Life) (s : State) : KeepsQueues s (mapLives f s) := by
  obtain ⟨_, _, _, _, h⟩ := mapLives_frame f s
  rw [h]
  exact keepsQueues_of_same rfl

theorem requestSweep_keepsQueues (s : State) : KeepsQueues s (requestSweep s) := keepsQueues_of_same rfl

theorem leaveList_keepsQueues (e : EntryIx) (s : State) : KeepsQueues s (leaveList e s) := keepsQueues_of_same rfl

theorem withdrawPart_keepsQueues (t : Tenant) (s : State) : KeepsQueues s (withdrawPart t s) := by
  obtain ⟨_, _, _, _, h⟩ := withdrawPart_frame t s
  rw [h]
  exact keepsQueues_of_same rfl

theorem purged_keepsQueues (t : Tenant) (s : State) : KeepsQueues s (purged t s) := by
  obtain ⟨_, _, _, _, _, _, h⟩ := purged_frame t s
  rw [h]
  exact keepsQueues_of_same rfl

/-! ### Conduct, the prepare phase and the purge -/

theorem charge_keepsQueues (p : Profile) (t : Tenant) (n : Nat) (cause : Cause) (s : State) :
    KeepsQueues s (charge p t n cause s).1 := by
  unfold charge
  extract_lets c m warn isolate c' notices
  split
  · rfl
  · have recorded : KeepsQueues s (s.setRecord t c') := keepsQueues_of_same rfl
    exact recorded.trans (foldl_keepsQueues _ (fun s body => issue_keepsQueues t body s) notices _)

theorem chargeAll_keepsQueues (p : Profile) (n : Nat) (cause : Cause) (ts : List Tenant) (s : State) :
    KeepsQueues s (chargeAll p n cause ts s).1 := by
  induction ts generalizing s with
  | nil => rfl
  | cons t ts ih => exact (charge_keepsQueues p t n cause s).trans (ih _)

theorem credit_keepsQueues (t : Tenant) (cause : Cause) (s : State) : KeepsQueues s (credit t cause s) := by
  have recorded (c : ConductRecord) : KeepsQueues s (s.setRecord t c) := keepsQueues_of_same rfl
  unfold credit
  dsimp only
  split
  · rfl
  split
  · exact (recorded _).trans (issue_keepsQueues _ _ _)
  · exact recorded _

theorem takeRecovery_keepsQueues (p : Profile) (t : Tenant) (how : RecoveryHow) (s : State) :
    KeepsQueues s (takeRecovery p t how s) := by
  have recorded : KeepsQueues s (s.setRecord t resetConduct) := keepsQueues_of_same rfl
  rw [takeRecovery_eq]
  exact recorded.trans (setPort_queues (noted_queue _ _ _))

theorem proceed_keepsQueues (s : State) : KeepsQueues s (proceed s) := by
  unfold proceed
  split
  · split
    · exact keepsQueues_of_same rfl
    · exact (issueAll_keepsQueues s.called (.abandoned s.batch none) s).trans (keepsQueues_of_same rfl)
  · rfl

theorem purge_keepsQueues (t : Tenant) (s : State) : KeepsQueues s (purge t s) := by
  have proceeded : KeepsQueues s (if t ∈ s.expected then proceed (purged t s) else purged t s) := by
    split
    · exact (purged_keepsQueues t s).trans (proceed_keepsQueues _)
    · exact purged_keepsQueues t s
  rw [purge_eq]
  exact proceeded.trans (keepsQueues_of_same rfl)

theorem purgeAll_keepsQueues (ts : List Tenant) (s : State) : KeepsQueues s (purgeAll ts s) :=
  foldl_keepsQueues _ (fun s t => purge_keepsQueues t s) ts s

theorem timeOut_keepsQueues (p : Profile) (s : State) : KeepsQueues s (timeOut p s) := by
  have withdrawn : KeepsQueues s (s.expected.foldl (fun s t => withdrawPart t s) s) :=
    foldl_keepsQueues _ (fun s t => withdrawPart_keepsQueues t s) s.expected s
  unfold timeOut
  dsimp only
  rw [charge_foldl]
  exact withdrawn.trans ((chargeAll_keepsQueues p 8 .timeout s.expected _).trans
    ((proceed_keepsQueues _).trans (purgeAll_keepsQueues _ _)))

theorem endSettle_keepsQueues (s : State) : KeepsQueues s (endSettle s) := by
  have freed := mapLives_keepsQueues (fun _ l => cooledLife l) s
  rw [endSettle_eq]
  generalize mapLives (fun _ l => cooledLife l) s = u at freed ⊢
  exact freed.trans (keepsQueues_of_same rfl)

theorem abandon_keepsQueues (epoch : BitVec 32) (s : State) : KeepsQueues s (abandon epoch s) := by
  unfold abandon
  extract_lets freed s1 s2
  have moved : KeepsQueues s s1 := mapLives_keepsQueues _ s
  clear_value s1
  have quiet : KeepsQueues s1 { s1 with cycle := .quiet, trigger := true } := keepsQueues_of_same rfl
  have told : KeepsQueues s s2 := moved.trans (quiet.trans (issueAll_keepsQueues _ _ _))
  split
  · exact told.trans (requestSweep_keepsQueues s2)
  · exact told

theorem handCancel_keepsQueues (f : Flight) (s : State) : KeepsQueues s (handCancel f s) := keepsQueues_of_same rfl

theorem imageFailed_keepsQueues (f : Flight) (s : State) : KeepsQueues s (imageFailed f s) := by
  unfold imageFailed
  split
  · exact (show KeepsQueues s (giveUp s) from keepsQueues_of_same rfl).trans (abandon_keepsQueues _ _)
  · exact keepsQueues_of_same rfl

/-! ### The expiries -/

theorem holdOut_keepsQueues (e : EntryIx) (s : State) : KeepsQueues s (holdOut e s) := by
  unfold holdOut
  split
  · exact (setLife_keepsQueues e _ s).trans (issue_keepsQueues _ _ _)
  · rfl

theorem waitOut_keepsQueues (e : EntryIx) (s : State) : KeepsQueues s (waitOut e s) := by
  unfold waitOut
  split
  · exact (leaveList_keepsQueues e s).trans ((setLife_keepsQueues e _ _).trans (issue_keepsQueues _ _ _))
  · rfl

theorem expire_keepsQueues (p : Profile) (it : FrameItem) (s : State) : KeepsQueues s (expire p it s) := by
  cases it with
  | cadence =>
    simp only [expire, cadenceOut]
    split
    · exact keepsQueues_of_same rfl
    · rfl
  | hold e => exact holdOut_keepsQueues e s
  | lapse e => exact waitOut_keepsQueues e s
  | pace t => exact requestSweep_keepsQueues s
  | recovery t =>
    simp only [expire, recoveryOut]
    split
    · exact takeRecovery_keepsQueues p t .auto s
    · rfl
  | prepareTimeout =>
    simp only [expire, prepareOut]
    split
    · exact timeOut_keepsQueues p s
    · rfl
  | settleEnd =>
    simp only [expire, settleOut]
    split
    · exact endSettle_keepsQueues s
    · rfl
  | ackWait =>
    simp only [expire, ackWaitOut]
    split
    · split
      · exact (handCancel_keepsQueues _ s).trans (imageFailed_keepsQueues _ _)
      · rfl
    · rfl

theorem takeExpiry_keepsQueues (it : FrameItem) (s : State) : KeepsQueues s (takeExpiry it s) := by
  unfold takeExpiry
  split
  · split
    · exact (show KeepsQueues s { s with due := s.due.erase it } from keepsQueues_of_same rfl).trans (expire_keepsQueues _ it _)
    · rfl
  · rfl

theorem foldl_takeExpiry_keepsQueues (its : List FrameItem) (s : State) :
    KeepsQueues s (its.foldl (fun s it => takeExpiry it s) s) :=
  foldl_keepsQueues _ (fun s it => takeExpiry_keepsQueues it s) its s

theorem settleDue_keepsQueues (s : State) : KeepsQueues s (settleDue s) := foldl_takeExpiry_keepsQueues s.due s

/-! ### The frame event -/

theorem countFrame_keepsQueues (p : Profile) (holdoff : Bool) (s : State) : KeepsQueues s (countFrame p holdoff s) := by
  have counted := mapLives_keepsQueues (fun _ l => countedLife l) s
  unfold countFrame
  generalize mapLives (fun _ l => countedLife l) s = u at counted ⊢
  exact counted.trans (keepsQueues_of_same rfl)

theorem freeze_keepsQueues (p : Profile) (s : State) : KeepsQueues s (freeze p s) := by
  unfold freeze
  split
  · extract_lets s1 called s2 s3
    have flagged : KeepsQueues s { s with trigger := false, batch := s.batch + 1 } := keepsQueues_of_same rfl
    have frozen : KeepsQueues s s1 := flagged.trans (mapLives_keepsQueues _ _)
    clear_value s1
    have awaited : KeepsQueues s1 s2 := keepsQueues_of_same rfl
    have told : KeepsQueues s2 s3 := foldl_keepsQueues _ (fun s t => issue_keepsQueues t _ s) called s2
    clear_value s3
    refine frozen.trans (awaited.trans (told.trans ?_))
    split <;> exact keepsQueues_of_same rfl
  · exact keepsQueues_of_same rfl

theorem commit_keepsQueues (p : Profile) (f : Flight) (s : State) : KeepsQueues s (commit p f s) := by
  have moved : KeepsQueues s (switched p f s) := by
    obtain ⟨_, _, _, _, frame⟩ := switched_frame p f s
    rw [frame]
    exact keepsQueues_of_same rfl
  have told : KeepsQueues s (committedTold p f s) := moved.trans (issueAll_keepsQueues _ _ _)
  rw [commit_eq]
  split
  · exact told.trans (requestSweep_keepsQueues _)
  · exact told

theorem cycleTest_keepsQueues (p : Profile) (cycle : CycleState) (holdoff : Bool) (s : State) :
    KeepsQueues s (cycleTest p cycle holdoff s) := by
  unfold cycleTest
  split
  · rfl
  split
  · split
    · exact freeze_keepsQueues p s
    · rfl
  · split
    · exact commit_keepsQueues p _ s
    · rfl
  · split
    · exact keepsQueues_of_same rfl
    · rfl
  · rfl
  · rfl

theorem frameEvent_keepsQueues (p : Profile) (holdoff : Bool) (o : FrameOrder) (s : State) :
    KeepsQueues s (frameEvent p holdoff o s) := by
  unfold frameEvent
  extract_lets counted s1 s2 now s3
  have counts : KeepsQueues s counted := countFrame_keepsQueues p holdoff s
  clear_value counted
  have due : KeepsQueues counted s1 := keepsQueues_of_same rfl
  have early : KeepsQueues s1 s2 := foldl_takeExpiry_keepsQueues o.early s1
  have late : KeepsQueues s2 s3 := foldl_takeExpiry_keepsQueues now s2
  exact counts.trans (due.trans (early.trans (late.trans (cycleTest_keepsQueues p s.cycle holdoff s3))))

end Sys2Proof.Proofs
end

section
/-! PROOFS. A report's evaluation taken apart: its records join the log, then the notices, the hand-overs and the purges follow
(R136, R140 to R145). -/

namespace Sys2Proof.Proofs

open Machine Safety Laws

/-! ### Records join the log (R141) -/

/-- The joining of records changes the log and its sequence alone. -/
theorem joinAll_frame (vs : List Violation) (s : State) :
    (joinAll vs s).1 = { s with log := (joinAll vs s).1.log, logSeq := (joinAll vs s).1.logSeq } := by
  induction vs generalizing s with
  | nil => rfl
  | cons v vs ih => exact ih (joinLog v s).1

theorem seq_succ (seq : BitVec 16) (n : Nat) : seq + 1 + BitVec.ofNat 16 n = seq + BitVec.ofNat 16 (n + 1) := by
  rw [BitVec.ofNat_add, BitVec.add_assoc, BitVec.add_comm (BitVec.ofNat 16 n)]
  rfl

/-- Each record takes the next log sequence. -/
theorem joinAll_getElem? (vs : List Violation) (s : State) (i : Nat) :
    (joinAll vs s).2[i]? = vs[i]?.map fun v => { v with seq := s.logSeq + BitVec.ofNat 16 i } := by
  induction vs generalizing s i with
  | nil => rfl
  | cons v vs ih =>
    cases i with
    | zero => simp [joinAll, joinLog]
    | succ i => exact (ih (joinLog v s).1 i).trans (by simp only [joinLog, seq_succ, List.getElem?_cons_succ])

theorem joinAll_length (vs : List Violation) (s : State) : (joinAll vs s).2.length = vs.length := by
  induction vs generalizing s with
  | nil => rfl
  | cons v vs ih => exact congrArg Nat.succ (ih (joinLog v s).1)

/-- Joining gives a record its sequence and changes nothing else of it. -/
theorem joinAll_map {α : Type} (f : Violation → α) (h : ∀ v seq, f { v with seq := seq } = f v) (vs : List Violation) (s : State) :
    (joinAll vs s).2.map f = vs.map f := by
  induction vs generalizing s with
  | nil => rfl
  | cons v vs ih => exact congrArg₂ List.cons (h v _) (ih (joinLog v s).1)

theorem joinAll_logSeq (vs : List Violation) (s : State) :
    (joinAll vs s).1.logSeq = s.logSeq + BitVec.ofNat 16 vs.length := by
  induction vs generalizing s with
  | nil => simp [joinAll]
  | cons v vs ih => exact (ih (joinLog v s).1).trans (seq_succ s.logSeq vs.length)

theorem joinLog_log {s : State} (v : Violation) (within : s.log.length ≤ Config.logMax) :
    (joinLog v s).1.log = (s.log ++ [(joinLog v s).2]).drop (s.log.length + 1 - Config.logMax) := by
  unfold joinLog
  dsimp only
  split
  · next full =>
    have one : s.log.length + 1 - Config.logMax = 1 := by omega
    rw [one, List.drop_append_of_le_length (by rw [Config.logMax] at full; omega)]
  · next room =>
    have zero : s.log.length + 1 - Config.logMax = 0 := by omega
    rw [zero, List.drop_zero]

theorem joinLog_within {s : State} (v : Violation) (within : s.log.length ≤ Config.logMax) :
    (joinLog v s).1.log.length ≤ Config.logMax := by
  rw [joinLog_log v within, List.length_drop, List.length_append, List.length_singleton]
  omega

/-- The log keeps the newest 16 records, the joining ones among them (R141). -/
theorem joinAll_log (vs : List Violation) {s : State} (within : s.log.length ≤ Config.logMax) :
    (joinAll vs s).1.log = (s.log ++ (joinAll vs s).2).drop (s.log.length + vs.length - Config.logMax) := by
  induction vs generalizing s with
  | nil => simp [joinAll, Nat.sub_eq_zero_of_le within]
  | cons v vs ih =>
    have within' := joinLog_within v within
    have log := joinLog_log v within
    refine (ih within').trans ?_
    change _ = (s.log ++ (joinLog v s).2 :: (joinAll vs (joinLog v s).1).2).drop _
    have length : (joinLog v s).1.log.length = s.log.length + 1 - (s.log.length + 1 - Config.logMax) := by
      rw [log, List.length_drop, List.length_append, List.length_singleton]
    have short : s.log.length + 1 - Config.logMax ≤ (s.log ++ [(joinLog v s).2]).length := by
      rw [List.length_append, List.length_singleton]
      exact Nat.sub_le _ _
    rw [length, log, ← List.drop_append_of_le_length short, List.drop_drop, List.append_assoc, List.singleton_append,
      List.length_cons]
    congr 1
    omega

/-! ### The evaluation's shape -/

/-- The records of a report's evaluation before they take their sequences (R140). -/
def newRecords (p : Profile) (r : Report) (s : State) : List Violation :=
  recordOrder.filterMap (mergeRecord s (findingsOf p s r))

/-- The records of a report's evaluation as they join the log (R141). -/
def loggedRecords (p : Profile) (r : Report) (s : State) : List Violation := (joinAll (newRecords p r s) s).2

/-- The state once a report's records have joined the log. -/
def recorded (p : Profile) (r : Report) (s : State) : State := (joinAll (newRecords p r s) s).1

/-- A record of the list is attributed to the tenant. -/
def blamedIn (records : List Violation) (t : Tenant) : Bool := records.any fun v => decide (v.tenant = some t)

/-- One of the report's granules was tested against an on-air span of the tenant (R144). -/
def judgedIn (p : Profile) (r : Report) (s : State) (t : Tenant) : Bool :=
  (judgeAll p s r.first r.values).any fun j => decide (j.1 = some t)

theorem blamedIn_iff (records : List Violation) (t : Tenant) :
    blamedIn records t = true ↔ ∃ v ∈ records, v.tenant = some t := by
  simp [blamedIn]

theorem judgedIn_iff (p : Profile) (r : Report) (s : State) (t : Tenant) :
    judgedIn p r s t = true ↔ ∃ j ∈ judgeAll p s r.first r.values, j.1 = some t := by
  simp only [judgedIn, List.any_eq_true, decide_eq_true_eq]

/-- The state once the VIOLATION notices of the modes REPORT and CONFINE have gone out (R143). -/
def told (p : Profile) (r : Report) (s : State) : State :=
  if p.enforcement = .report ∨ p.enforcement = .confine then notifyAll (loggedRecords p r s) (recorded p r s)
  else recorded p r s

/-- The state once the hand-overs to the four tenants are made, with the tenants they isolated (R144, R145). -/
def handed (p : Profile) (r : Report) (s : State) : State × List Tenant :=
  handOverAll p (blamedIn (loggedRecords p r s)) (judgedIn p r s) allTenants (told p r s)

/-- The report leaves the queue, the next evaluation begins when another waits, and the isolated tenants are purged (R136, R152). -/
def concludeReport (rest : List Report) (x : State × List Tenant) : State :=
  purgeAll x.2 { x.1 with reports := rest, evaluating := !rest.isEmpty }

theorem foldl_notifyRecord (vs : List Violation) (s : State) : vs.foldl (fun s v => notifyRecord v s) s = notifyAll vs s := by
  induction vs generalizing s with
  | nil => rfl
  | cons v vs ih => exact ih (notifyRecord v s)

/-- An evaluation is its records, notices, hand-overs and purges, in this order. -/
theorem evaluateReport_eq (p : Profile) (r : Report) (rest : List Report) (s : State) :
    evaluateReport p r rest s = concludeReport rest (handed p r s) := by
  unfold evaluateReport
  extract_lets judgements findings notify
  have opened : newRecords p r s = recordOrder.filterMap (mergeRecord s findings) := rfl
  have judged : judgedIn p r s = fun t => judgements.any fun j => decide (j.1 = some t) := rfl
  unfold handed told loggedRecords recorded
  rw [opened, judged]
  generalize joinAll (recordOrder.filterMap (mergeRecord s findings)) s = joined
  obtain ⟨s1, records⟩ := joined
  dsimp -zeta only
  extract_lets s2
  have notified : s2 = if p.enforcement = .report ∨ p.enforcement = .confine then notifyAll records s1 else s1 := by
    unfold s2 notify
    simp only [Bool.or_eq_true, decide_eq_true_eq, foldl_notifyRecord]
  have blamed : blamedIn records = fun t => records.any fun v => decide (v.tenant = some t) := rfl
  rw [handOver_foldl, List.nil_append, ← notified, blamed]
  generalize handOverAll _ _ _ _ _ = x
  rfl

theorem recorded_frame (p : Profile) (r : Report) (s : State) :
    recorded p r s = { s with log := (recorded p r s).log, logSeq := (recorded p r s).logSeq } := joinAll_frame _ s

/-! ### What follows the records leaves the monitor -/

theorem notifyAll_keepsQueues (vs : List Violation) (s : State) : KeepsQueues s (notifyAll vs s) := by
  induction vs generalizing s with
  | nil => rfl
  | cons v vs ih =>
    refine KeepsQueues.trans ?_ (ih (notifyRecord v s))
    unfold notifyRecord
    split
    · exact issue_keepsQueues _ _ s
    · rfl

theorem restartRecovery_keepsQueues (p : Profile) (t : Tenant) (s : State) : KeepsQueues s (restartRecovery p t s) := by
  obtain ⟨_, h⟩ := restartRecovery_frame p t s
  rw [h]
  exact keepsQueues_of_same rfl

theorem handOver_keepsQueues (p : Profile) (t : Tenant) (blamed judged : Bool) (s : State) :
    KeepsQueues s (handOver p t blamed judged s).1 := by
  unfold handOver
  split
  · dsimp only
    split
    · exact restartRecovery_keepsQueues p t s
    · rfl
  split
  · rfl
  split
  · exact charge_keepsQueues p t 8 .violation s
  split
  · exact credit_keepsQueues t .cleanCredit s
  · rfl

theorem handOverAll_keepsQueues (p : Profile) (blamed judged : Tenant → Bool) (ts : List Tenant) (s : State) :
    KeepsQueues s (handOverAll p blamed judged ts s).1 := by
  induction ts generalizing s with
  | nil => rfl
  | cons t ts ih => exact (handOver_keepsQueues p t (blamed t) (judged t) s).trans (ih _)

theorem told_keepsQueues (p : Profile) (r : Report) (s : State) : KeepsQueues (recorded p r s) (told p r s) := by
  unfold told
  split
  · exact notifyAll_keepsQueues _ _
  · rfl

theorem handed_keepsQueues (p : Profile) (r : Report) (s : State) : KeepsQueues (recorded p r s) (handed p r s).1 :=
  (told_keepsQueues p r s).trans (handOverAll_keepsQueues p _ _ allTenants _)

theorem KeepsQueues.withReports {s u : State} (h : KeepsQueues s u) (reports : List Report) (evaluating : Bool) :
    KeepsQueues { s with reports := reports, evaluating := evaluating } { u with reports := reports, evaluating := evaluating } := by
  refine ⟨?_, h.queues⟩
  have monitor := h.monitor
  simp only [monitorOf, Prod.mk.injEq, true_and] at monitor ⊢
  obtain ⟨device, -, -, log⟩ := monitor
  exact ⟨device, log⟩

/-- After an evaluation the report is gone from the queue, and the log is as the records left it. -/
theorem evaluateReport_keepsQueues (p : Profile) (r : Report) (rest : List Report) (s : State) :
    KeepsQueues { recorded p r s with reports := rest, evaluating := !rest.isEmpty } (evaluateReport p r rest s) := by
  rw [evaluateReport_eq]
  exact ((handed_keepsQueues p r s).withReports rest _).trans (purgeAll_keepsQueues _ _)

end Sys2Proof.Proofs
end

section
/-! PROOFS. Every command keeps the bounds of the queues and the log's sequence: the log and the report queue of the Spectrum Monitor,
the evaluations and the rows that are made of the shared operations, and from them the statement about a step. -/

namespace Sys2Proof.Proofs

open Machine Safety Laws

/-! ### Consecutive sequence numbers (R131) -/

/-- Sequence numbers that count up by 1 and end just below `next`. -/
def Consecutive (seqs : List (BitVec 16)) (next : BitVec 16) : Prop :=
  ∀ i < seqs.length, seqs[i]? = some (next - BitVec.ofNat 16 (seqs.length - i))

theorem logSequences_iff (s : State) : logSequences s ↔ Consecutive (s.log.map Violation.seq) s.logSeq := by
  unfold logSequences Consecutive
  rw [List.length_map]
  constructor
  · intro h i hi
    simp [h, hi]
  · intro h
    refine List.ext_getElem? fun i => ?_
    by_cases hi : i < s.log.length
    · rw [h i hi]
      simp [hi]
    · simp [hi]

theorem Consecutive.append {seqs : List (BitVec 16)} {next : BitVec 16} (h : Consecutive seqs next) :
    Consecutive (seqs ++ [next]) (next + 1) := by
  intro i hi
  rw [List.length_append, List.length_singleton] at hi ⊢
  rcases Nat.lt_succ_iff_lt_or_eq.mp hi with earlier | rfl
  · have behind : seqs.length + 1 - i = seqs.length - i + 1 := by omega
    rw [List.getElem?_append_left earlier, h i earlier, behind, BitVec.ofNat_add]
    congr 1
    bv_omega
  · simp

theorem Consecutive.drop {seqs : List (BitVec 16)} {next : BitVec 16} (h : Consecutive seqs next) (k : Nat) :
    Consecutive (seqs.drop k) next := by
  intro i hi
  rw [List.length_drop] at hi ⊢
  rw [List.getElem?_drop, h (k + i) (by omega), Nat.sub_sub]

/-! ### The log (R131, R141) -/

/-- The log is within its bound and its sequence numbers are consecutive. -/
structure LogOk (s : State) : Prop where
  within   : s.log.length ≤ Config.logMax
  sequence : logSequences s

theorem joinLog_logOk {s : State} (ok : LogOk s) (v : Violation) : LogOk (joinLog v s).1 where
  within := joinLog_within v ok.within
  sequence := by
    have before := (logSequences_iff s).mp ok.sequence
    rw [logSequences_iff, joinLog_log v ok.within, List.map_drop, List.map_append]
    exact before.append.drop _

theorem joinAll_logOk {s : State} (ok : LogOk s) (vs : List Violation) : LogOk (joinAll vs s).1 := by
  induction vs generalizing s with
  | nil => exact ok
  | cons v vs ih => exact ih (joinLog_logOk ok v)

/-! ### What keeps the queues within their bounds -/

theorem logOk_of_queuesOk {s : State} (ok : QueuesOk s) : LogOk s := ⟨ok.log, ok.sequence⟩

/-- With device and monitor as they were, and no notice queue past its bound, the bounds still hold. -/
theorem KeepsQueues.queuesOk {s u : State} (h : KeepsQueues s u) (ok : QueuesOk s) : QueuesOk u := by
  have monitor := h.monitor
  simp only [monitorOf, Prod.mk.injEq] at monitor
  obtain ⟨device, reports, evaluating, log, logSeq, transfer⟩ := monitor
  refine ⟨fun t => (h.queues t).trans (max_le le_rfl (ok.notices t)), log ▸ ok.log, ?_, reports ▸ ok.reports, ?_, ?_, ?_⟩
  · have sequence := ok.sequence
    rwa [logSequences, ← log, ← logSeq] at sequence
  · rw [transfer, reports]
    exact ok.transfer
  · rw [profile?_eq_of_device device, reports]
    exact ok.idle
  · rw [evaluating, reports]
    exact ok.inHand

/-- Without a profile no report waits, and the device may become anything (R147). -/
theorem queuesOk_of_stopped {s : State} (stopped : s.profile? = none) (d : Device) (ok : QueuesOk s) :
    QueuesOk { s with device := d } :=
  ⟨ok.notices, ok.log, ok.sequence, ok.reports, ok.transfer, fun _ => ok.idle stopped, ok.inHand⟩

/-! ### The report queue (R132 to R136) -/

/-- While MREADY is asserted the queue has a place (R134). -/
theorem mready_room {s : State} (ok : QueuesOk s) (ready : s.mready = true) : s.reports.length < Config.reportMax := by
  rcases running_or_stopped s with ⟨p, running⟩ | stopped
  · simpa [State.mready, running] using ready
  · rw [ok.idle stopped]
    decide

theorem beginTransfer_queuesOk {s : State} (ok : QueuesOk s) : QueuesOk { s with transfer := some s.mready } :=
  ⟨ok.notices, ok.log, ok.sequence, ok.reports, fun ready => mready_room (s := s) ok (Option.some.inj ready), ok.idle, ok.inHand⟩

/-- A report whose transfer began, or arrives, with MREADY asserted finds a place (R134, R135). -/
theorem transfer_room {s : State} (ok : QueuesOk s) (ready : s.transfer.getD s.mready = true) :
    s.reports.length < Config.reportMax := by
  cases began : s.transfer with
  | none => exact mready_room ok (by rwa [began] at ready)
  | some b =>
    rw [began] at ready
    exact ok.transfer (began.trans (congrArg some ready))

theorem arriveReport_queuesOk (bytes : List Byte) (strayBits : Bool) {s : State} (ok : QueuesOk s) :
    QueuesOk (arriveReport bytes strayBits s) := by
  have ended : QueuesOk { s with transfer := none } :=
    ⟨ok.notices, ok.log, ok.sequence, ok.reports, nofun, ok.idle, ok.inHand⟩
  unfold arriveReport
  dsimp only
  split
  · next r p _ running =>
    split
    · next joins =>
      have room := transfer_room ok joins.1
      refine ⟨ok.notices, ok.log, ok.sequence, ?_, nofun, fun stopped => ?_, fun _ => List.append_ne_nil_of_right_ne_nil _ nofun⟩
      · rw [List.length_append]
        exact room
      · cases running.symm.trans stopped
    · exact ended
  · exact ended

theorem beginEvaluation_queuesOk {s : State} (waiting : s.reports ≠ []) (ok : QueuesOk s) :
    QueuesOk { s with evaluating := true } :=
  ⟨ok.notices, ok.log, ok.sequence, ok.reports, ok.transfer, ok.idle, fun _ => waiting⟩

/-- The report evaluated leaves the queue, and its records join the log (R136, R141). -/
theorem evaluateReport_queuesOk {s : State} {p : Profile} {r : Report} {rest : List Report} (running : s.device = .running p)
    (head : s.reports = r :: rest) (ok : QueuesOk s) : QueuesOk (evaluateReport p r rest s) := by
  have log : LogOk (recorded p r s) := joinAll_logOk (logOk_of_queuesOk ok) _
  refine (evaluateReport_keepsQueues p r rest s).queuesOk ?_
  rw [recorded_frame] at log ⊢
  have shorter : rest.length < s.reports.length := by simp [head]
  refine ⟨ok.notices, log.within, log.sequence, shorter.le.trans ok.reports, fun ready => shorter.trans (ok.transfer ready),
    fun stopped => ?_, fun next => ?_⟩
  · cases (profile?_of_running running).symm.trans stopped
  · simpa using next

/-! ### The evaluations of the Plan Engine -/

theorem evalPlace_keepsQueues (p : Profile) (t : Tenant) (f : PlaceFields) (s : State) :
    KeepsQueues s (evalPlace p t f s).1 := by
  unfold evalPlace
  split
  · rfl
  split
  · rfl
  split
  · rfl
  extract_lets s1
  split
  · exact keepsQueues_of_same rfl
  split
  · exact keepsQueues_of_same rfl
  · unfold fitFailed
    split
    · exact keepsQueues_of_same rfl
    split <;> exact keepsQueues_of_same rfl

theorem releaseFromBatch_keepsQueues (t : Tenant) (e : EntryIx) (s : State) : KeepsQueues s (releaseFromBatch t e s) := by
  unfold releaseFromBatch
  extract_lets s1
  have freed : KeepsQueues s s1 := keepsQueues_of_same rfl
  split
  · exact freed.trans ((show KeepsQueues s1 (leaveExpected t s1) from keepsQueues_of_same rfl).trans (proceed_keepsQueues _))
  · exact freed

theorem evalRelease_keepsQueues (p : Profile) (t : Tenant) (h : Handle) (s : State) :
    KeepsQueues s (evalRelease p t h s).1 := by
  unfold evalRelease
  split
  · rfl
  · split
    case h_3 =>
      split
      · exact releaseFromBatch_keepsQueues t _ s
      · exact setLife_keepsQueues _ _ s
    case h_2 => exact keepsQueues_of_same rfl
    case h_4 => exact setLife_keepsQueues _ _ s
    all_goals rfl

theorem evalWithdraw_keepsQueues (p : Profile) (t : Tenant) (h : Handle) (s : State) :
    KeepsQueues s (evalWithdraw p t h s).1 := by
  unfold evalWithdraw
  split
  · rfl
  · split
    case h_1 => exact (leaveList_keepsQueues _ s).trans (setLife_keepsQueues _ _ _)
    all_goals rfl

theorem evalQuerySpan_keepsQueues (p : Profile) (t : Tenant) (h : Handle) (s : State) :
    KeepsQueues s (evalQuerySpan p t h s).1 := by
  unfold evalQuerySpan
  split
  · rfl
  · exact keepsQueues_of_same rfl

theorem evalQueryMap_keepsQueues (p : Profile) (t : Tenant) (x : BitVec 16 × Byte) (s : State) :
    KeepsQueues s (evalQueryMap p t x s).1 := by
  unfold evalQueryMap
  dsimp only
  split <;> rfl

theorem evalReady_keepsQueues (p : Profile) (t : Tenant) (batch : BitVec 16) (s : State) :
    KeepsQueues s (evalReady p t batch s).1 := by
  unfold evalReady
  split
  · rfl
  · exact (show KeepsQueues s (leaveExpected t s) from keepsQueues_of_same rfl).trans
      ((credit_keepsQueues t _ _).trans (proceed_keepsQueues _))

theorem evalRefuse_keepsQueues (p : Profile) (t : Tenant) (batch : BitVec 16) (s : State) :
    KeepsQueues s (evalRefuse p t batch s).1 := by
  unfold evalRefuse
  split
  · rfl
  · have proceeded : KeepsQueues s (proceed (charge p t 2 .refusal (withdrawPart t s)).1) :=
      (withdrawPart_keepsQueues t s).trans ((charge_keepsQueues p t 2 .refusal _).trans (proceed_keepsQueues _))
    dsimp only
    split
    · exact proceeded.trans (purge_keepsQueues t _)
    · exact proceeded

/-- A response placed leaves the port's notice queue (R169). -/
theorem respond_keepsQueues (t : Tenant) (k : FrameKind) (a : Answer) (s : State) : KeepsQueues s (respond t k a s) :=
  setPort_keepsQueues le_rfl

theorem completeFor_keepsQueues {α : Type} {select : EngineRequest → Option α}
    {eval : Profile → Tenant → α → State → State × Answer} (h : ∀ p t x s, KeepsQueues s (eval p t x s).1) (s : State) :
    KeepsQueues s (completeFor select eval s) := by
  have answered (t : Tenant) (k : FrameKind) (x : State × Answer) :
      KeepsQueues x.1 { respond t k x.2 x.1 with inHand := none } :=
    (respond_keepsQueues t k x.2 x.1).trans (keepsQueues_of_same rfl)
  unfold completeFor
  split
  · split
    · split
      · refine KeepsQueues.trans ?_ (answered _ _ _)
        split
        · rfl
        · exact h _ _ _ _
      · rfl
    · rfl
  · rfl

/-! ### The arbiter and the sweep step -/

theorem grantEngine_keepsQueues (s : State) : KeepsQueues s (grantEngine s) := by
  unfold grantEngine
  split
  · split
    · exact keepsQueues_of_same rfl
    · rfl
  · rfl

theorem stepOn_keepsQueues (p : Profile) (e : EntryIx) (s : State) : KeepsQueues s (stepOn p e s) := by
  unfold stepOn
  split
  · next a _ _ _ =>
    split
    · exact keepsQueues_of_same rfl
    split
    · next q _ =>
      have staged : KeepsQueues s (leaveList e (stage p e a q s)) := keepsQueues_of_same rfl
      exact staged.trans (issue_keepsQueues _ _ _)
    · exact keepsQueues_of_same rfl
  all_goals exact keepsQueues_of_same rfl

theorem sweepStep_keepsQueues (s : State) : KeepsQueues s (sweepStep s) := by
  unfold sweepStep
  split
  · split
    · exact (stepOn_keepsQueues _ _ s).trans (keepsQueues_of_same rfl)
    · exact keepsQueues_of_same rfl
    · exact keepsQueues_of_same rfl
  · rfl

/-! ### The tenant ports -/

theorem takeNow_keepsQueues {act : State → State × Answer} (h : ∀ s, KeepsQueues s (act s).1) (t : Tenant) (k : FrameKind)
    (s : State) : KeepsQueues s (takeNow t k act s) := by
  unfold takeNow
  split
  · rfl
  extract_lets s1 q s2
  have framed : KeepsQueues s s1 := setPort_keepsQueues le_rfl
  split
  · exact framed.trans (setPort_keepsQueues le_rfl)
  have emptied : KeepsQueues s1 s2 := setPort_keepsQueues le_rfl
  have acted : KeepsQueues s2 (match requestCheck t k s2 with
      | some c => (s2, refusal c)
      | none => act s2).1 := by
    split
    · rfl
    · exact h s2
  exact framed.trans (emptied.trans (acted.trans (respond_keepsQueues _ _ _ _)))

theorem setMode_keepsQueues (t : Tenant) (m : PortMode) (s : State) : KeepsQueues s (setMode t m s) :=
  setPort_keepsQueues le_rfl

theorem withdrawal_keepsQueues (t : Tenant) (m : PortMode) (s : State) : KeepsQueues s (withdrawal t m s) :=
  (setMode_keepsQueues t m s).trans (purge_keepsQueues t _)

theorem actMode_keepsQueues (t : Tenant) (target : Byte) (s : State) : KeepsQueues s (actMode t target s).1 := by
  unfold actMode
  split
  · rfl
  split
  case h_2 =>
    split
    · exact setMode_keepsQueues _ _ _
    · rfl
  case h_5 | h_7 | h_9 => exact setMode_keepsQueues _ _ _
  case h_11 => exact (setMode_keepsQueues _ _ _).trans (requestSweep_keepsQueues _)
  case h_13 | h_14 | h_15 | h_16 => exact withdrawal_keepsQueues _ _ _
  all_goals rfl

theorem actStatus_keepsQueues (t : Tenant) (s : State) : KeepsQueues s (actStatus t s).1 := by
  unfold actStatus
  exact setPort_keepsQueues le_rfl

theorem actSetNoticeMask_keepsQueues (t : Tenant) (mask : BitVec 16) (s : State) :
    KeepsQueues s (actSetNoticeMask t mask s).1 := by
  unfold actSetNoticeMask
  exact setPort_keepsQueues le_rfl

theorem actTrigger_keepsQueues (t : Tenant) (s : State) : KeepsQueues s (actTrigger t s).1 := by
  unfold actTrigger
  split
  · split
    · exact keepsQueues_of_same rfl
    · rfl
  · rfl

theorem actReadLog_state (start : BitVec 16) (limit : Byte) (s : State) : (actReadLog start limit s).1 = s := by
  unfold actReadLog
  dsimp only
  split
  · rfl
  split
  · rfl
  split <;> rfl

theorem actRecover_keepsQueues (t : Tenant) (s : State) : KeepsQueues s (actRecover t s).1 := by
  unfold actRecover
  split
  · rfl
  dsimp only
  split
  · rfl
  split
  · rfl
  · rfl
  split
  · exact takeRecovery_keepsQueues _ _ _ _
  · rfl

/-- A notice read leaves its queue (R163). -/
theorem actReadNotice_keepsQueues (t : Tenant) (s : State) : KeepsQueues s (actReadNotice t s).1 := by
  unfold actReadNotice
  split
  · rfl
  · next head =>
    refine setPort_keepsQueues ?_
    rw [head]
    exact Nat.le_succ _

/-! ### The plan link -/

theorem endImageSend_keepsQueues (s : State) : KeepsQueues s (endImageSend s) := by
  unfold endImageSend
  split
  · exact keepsQueues_of_same rfl
  · rfl

theorem handWaiting_keepsQueues (s : State) : KeepsQueues s (handWaiting s) := by
  unfold handWaiting
  split
  · exact keepsQueues_of_same rfl
  · rfl

theorem endFrameSend_keepsQueues (s : State) : KeepsQueues s (endFrameSend s) := by
  have sent (rest : List OutFrame) (bytes : List Byte) : KeepsQueues s { s with transmit := rest, pltx := bytes } :=
    keepsQueues_of_same rfl
  unfold endFrameSend
  split
  · exact (sent _ _).trans (handWaiting_keepsQueues _)
  · exact (sent _ _).trans (handWaiting_keepsQueues _)
  · rfl

theorem takeAck_keepsQueues (epoch : BitVec 32) (send : Byte) (s : State) : KeepsQueues s (takeAck epoch send s) := by
  unfold takeAck
  split
  · split
    · exact keepsQueues_of_same rfl
    · rfl
  · rfl

theorem takeNak_keepsQueues (epoch : BitVec 32) (send : Byte) (s : State) : KeepsQueues s (takeNak epoch send s) := by
  have refused (f : Flight) : KeepsQueues s (if answers epoch send f then refuseImage f s else s) := by
    split
    · unfold refuseImage
      split
      · exact imageFailed_keepsQueues f s
      · exact (handCancel_keepsQueues f s).trans (imageFailed_keepsQueues f _)
    · rfl
  unfold takeNak
  split
  · exact refused _
  · exact refused _
  · rfl

/-! ### Rows -/

/-- The command ends in a next state, whose queues are within their bounds when those of `s` are. -/
def EndsQueued (s : State) (o : Host.Outcome State Fault Refusal) : Prop := ∃ u, o = .next u ∧ (QueuesOk s → QueuesOk u)

theorem endsQueued_next {s u : State} (h : KeepsQueues s u) : EndsQueued s (.next u) := ⟨u, rfl, h.queuesOk⟩

/-- A command that first takes what the last frame event left due. -/
theorem EndsQueued.of_settleDue {s : State} {o : Host.Outcome State Fault Refusal} (h : EndsQueued (settleDue s) o) :
    EndsQueued s o := by
  obtain ⟨u, rfl, hu⟩ := h
  exact ⟨u, rfl, hu ∘ (settleDue_keepsQueues s).queuesOk⟩

theorem endsQueued_settled {f : State → State} (h : ∀ {s}, QueuesOk s → QueuesOk (f s)) (s : State) :
    EndsQueued s (.next (f (settleDue s))) := .of_settleDue ⟨_, rfl, h⟩

theorem endsQueued_kept {f : State → State} (h : ∀ s, KeepsQueues s (f s)) (s : State) :
    EndsQueued s (.next (f (settleDue s))) := endsQueued_settled (fun {s} => (h s).queuesOk) s

theorem requestAccepted_endsQueued (t : Tenant) (r : EngineRequest) (s : State) : EndsQueued s (execRequestAccepted t r s) := by
  refine .of_settleDue ?_
  unfold execRequestAccepted
  extract_lets u s1 q
  have framed : KeepsQueues u s1 := setPort_keepsQueues le_rfl
  split
  · exact endsQueued_next (.refl u)
  split
  · exact endsQueued_next (framed.trans (setPort_keepsQueues le_rfl))
  split
  · have emptied : KeepsQueues s1 (s1.setPort t { q with response := none }) := setPort_keepsQueues le_rfl
    exact endsQueued_next (framed.trans (emptied.trans (respond_keepsQueues _ _ _ _)))
  · exact endsQueued_next (framed.trans (setPort_keepsQueues le_rfl))

theorem malformedFrame_endsQueued (t : Tenant) (bytes : List Byte) (s : State) :
    EndsQueued s (execMalformedFrame t bytes s) := by
  refine .of_settleDue ?_
  unfold execMalformedFrame
  extract_lets u n known out
  split
  · exact endsQueued_next (.refl u)
  · have flagged : KeepsQueues u (u.setPort t { u.port t with malformed := true, underWay := none, sdo := out }) :=
      setPort_keepsQueues le_rfl
    exact endsQueued_next (flagged.trans (keepsQueues_of_same rfl))

theorem chipSelect_endsQueued (t : Tenant) (s : State) : EndsQueued s (execChipSelectAsserted t s) := by
  refine .of_settleDue ?_
  unfold execChipSelectAsserted
  dsimp only
  split
  · exact endsQueued_next (.refl _)
  · exact endsQueued_next (setPort_keepsQueues le_rfl)

theorem fetch_endsQueued (t : Tenant) (count : Nat) (s : State) : EndsQueued s (execFetch t count s) := by
  refine .of_settleDue ?_
  unfold execFetch
  dsimp only
  split
  · exact endsQueued_next (.refl _)
  · exact endsQueued_next (setPort_keepsQueues le_rfl)

theorem portReset_endsQueued (t : Tenant) (s : State) : EndsQueued s (execPortReset t s) := by
  refine .of_settleDue ?_
  unfold execPortReset
  extract_lets u s1 s2 q s3
  have offline : KeepsQueues u s1 := setMode_keepsQueues t .offline u
  have purged : KeepsQueues s1 s2 := by
    unfold s2
    split
    · exact purge_keepsQueues t s1
    · rfl
  clear_value s2
  have cleared : KeepsQueues s2 s3 := setPort_keepsQueues (Nat.zero_le _)
  have kept := offline.trans (purged.trans cleared)
  clear_value s3
  refine endsQueued_next (kept.trans ?_)
  split
  · exact keepsQueues_of_same rfl
  · rfl

theorem portResetRelease_endsQueued (t : Tenant) (s : State) : EndsQueued s (execPortResetRelease t s) := by
  refine .of_settleDue ?_
  unfold execPortResetRelease
  dsimp only
  split
  · exact endsQueued_next (setPort_keepsQueues (Nat.zero_le _))
  · exact endsQueued_next (.refl _)

theorem reportEvaluationBegin_endsQueued (s : State) : EndsQueued s (execReportEvaluationBegin s) := by
  refine .of_settleDue ?_
  unfold execReportEvaluationBegin
  dsimp only
  split
  · next h => exact ⟨_, rfl, beginEvaluation_queuesOk h.1⟩
  · exact endsQueued_next (.refl _)

theorem reportEvaluation_endsQueued (s : State) : EndsQueued s (execReportEvaluation s) := by
  refine .of_settleDue ?_
  unfold execReportEvaluation
  dsimp only
  split
  · next running head => exact ⟨_, rfl, evaluateReport_queuesOk (device_of_profile? running) head⟩
  · exact endsQueued_next (.refl _)

/-! ### The resets and the loads -/

/-- A device reset empties every queue (R147, R174). -/
theorem afterReset_queuesOk (s : State) : QueuesOk (afterReset s) :=
  ⟨fun t => by simp [afterReset, State.port, resetPort], queuesOk_reset.log, queuesOk_reset.sequence, queuesOk_reset.reports, nofun,
    fun _ => rfl, nofun⟩

/-- A reload empties every queue but leaves a report transfer under way (R147, R174). -/
theorem beginReload_queuesOk (s : State) : QueuesOk (beginReload s) where
  notices t := by
    rw [beginReload_port]
    exact Nat.zero_le _
  log := Nat.zero_le _
  sequence := rfl
  reports := Nat.zero_le _
  transfer _ := Nat.succ_pos _
  idle _ := rfl
  inHand := nofun

theorem rstRelease_endsQueued (s : State) : EndsQueued s (execRstRelease s) := by
  refine .of_settleDue ?_
  unfold execRstRelease
  generalize settleDue s = u
  dsimp only
  split
  · next h =>
    have stopped : u.profile? = none := by simp [State.profile?, (rstAsserted_iff u).mp h]
    have emptied (d : Device) : KeepsQueues { u with device := d } { u with device := d, staged := [] } := keepsQueues_of_same rfl
    exact ⟨_, rfl, fun ok => (emptied _).queuesOk (queuesOk_of_stopped stopped _ ok)⟩
  · exact endsQueued_next (.refl u)

theorem reload_endsQueued (s : State) : EndsQueued s (execReload s) := by
  refine .of_settleDue ?_
  unfold execReload
  generalize settleDue s = u
  dsimp only
  split
  · exact endsQueued_next (.refl u)
  · exact ⟨_, rfl, fun _ => beginReload_queuesOk u⟩

theorem loadComplete_endsQueued (memory : List Byte) (s : State) : EndsQueued s (execLoadComplete memory s) := by
  refine .of_settleDue ?_
  unfold execLoadComplete
  generalize settleDue s = u
  dsimp only
  split
  · next kind hd =>
    have stopped : u.profile? = none := by simp [State.profile?, hd]
    have read (d : Device) (staged : List Byte) (countdown : Option Nat) (cadence : Nat) (waiting : Option PlanImage) :
        KeepsQueues { u with device := d } { u with
          device := d, staged := staged, internalCountdown := countdown, cadence := cadence, startUpWaiting := waiting } :=
      keepsQueues_of_same rfl
    split
    · exact ⟨_, rfl, fun ok =>
        ((read _ _ _ _ _).trans (handWaiting_keepsQueues _)).queuesOk (queuesOk_of_stopped stopped _ ok)⟩
    · exact ⟨_, rfl, fun ok => (read _ _ _ _ _).queuesOk (queuesOk_of_stopped stopped _ ok)⟩
  · exact endsQueued_next (.refl u)

/-! ### Frame events -/

theorem framePulse_endsQueued (holdoff : Bool) (o : FrameOrder) (s : State) : EndsQueued s (execFramePulse holdoff o s) := by
  refine .of_settleDue ?_
  unfold execFramePulse
  dsimp only
  split
  · split
    · exact endsQueued_next (frameEvent_keepsQueues _ holdoff o _)
    · exact endsQueued_next (.refl _)
  · exact endsQueued_next (.refl _)

theorem internalFrameCountdown_endsQueued (holdoff : Bool) (o : FrameOrder) (s : State) :
    EndsQueued s (execInternalFrameCountdown holdoff o s) := by
  refine .of_settleDue ?_
  unfold execInternalFrameCountdown
  generalize settleDue s = u
  dsimp only
  split
  · next p _ =>
    have event := frameEvent_keepsQueues p holdoff o u
    generalize frameEvent p holdoff o u = v at event ⊢
    split
    · exact endsQueued_next (event.trans (keepsQueues_of_same rfl))
    · exact endsQueued_next (.refl u)
  · exact endsQueued_next (.refl u)

/-! ### Every command -/

theorem exec_endsQueued (c : Instr) (s : State) : EndsQueued s (exec c s) := by
  cases c with
  | deviceReset => exact ⟨_, rfl, fun _ => afterReset_queuesOk s⟩
  | rstRelease => exact rstRelease_endsQueued s
  | reload => exact reload_endsQueued s
  | loadComplete memory => exact loadComplete_endsQueued memory s
  | framePulse holdoff order => exact framePulse_endsQueued holdoff order s
  | internalFrameCountdown holdoff order => exact internalFrameCountdown_endsQueued holdoff order s
  | cadenceExpiry => exact endsQueued_next (takeExpiry_keepsQueues .cadence s)
  | prepareTimeout => exact endsQueued_next (takeExpiry_keepsQueues .prepareTimeout s)
  | settleEnd => exact endsQueued_next (takeExpiry_keepsQueues .settleEnd s)
  | holdExpiry e => exact endsQueued_next (takeExpiry_keepsQueues (.hold e) s)
  | lapse e => exact endsQueued_next (takeExpiry_keepsQueues (.lapse e) s)
  | paceExpiry t => exact endsQueued_next (takeExpiry_keepsQueues (.pace t) s)
  | ackWaitExpiry => exact endsQueued_next (takeExpiry_keepsQueues .ackWait s)
  | recoveryCountdownExpiry t => exact endsQueued_next (takeExpiry_keepsQueues (.recovery t) s)
  | malformedFrame t bytes => exact malformedFrame_endsQueued t bytes s
  | requestAccepted t r => exact requestAccepted_endsQueued t r s
  | arbiterGrant => exact endsQueued_kept grantEngine_keepsQueues s
  | place => exact endsQueued_kept (completeFor_keepsQueues evalPlace_keepsQueues) s
  | release => exact endsQueued_kept (completeFor_keepsQueues evalRelease_keepsQueues) s
  | withdraw => exact endsQueued_kept (completeFor_keepsQueues evalWithdraw_keepsQueues) s
  | querySpan => exact endsQueued_kept (completeFor_keepsQueues evalQuerySpan_keepsQueues) s
  | queryMap => exact endsQueued_kept (completeFor_keepsQueues evalQueryMap_keepsQueues) s
  | ready => exact endsQueued_kept (completeFor_keepsQueues evalReady_keepsQueues) s
  | refuse => exact endsQueued_kept (completeFor_keepsQueues evalRefuse_keepsQueues) s
  | sweepStep => exact endsQueued_kept sweepStep_keepsQueues s
  | status t => exact endsQueued_kept (takeNow_keepsQueues (actStatus_keepsQueues t) t .status) s
  | mode t target => exact endsQueued_kept (takeNow_keepsQueues (actMode_keepsQueues t target) t .mode) s
  | trigger t => exact endsQueued_kept (takeNow_keepsQueues (actTrigger_keepsQueues t) t .trigger) s
  | readLog t start limit =>
    exact endsQueued_kept (takeNow_keepsQueues (fun s => by rw [actReadLog_state]) t .readLog) s
  | recover t => exact endsQueued_kept (takeNow_keepsQueues (actRecover_keepsQueues t) t .recover) s
  | readNotice t => exact endsQueued_kept (takeNow_keepsQueues (actReadNotice_keepsQueues t) t .readNotice) s
  | setNoticeMask t mask =>
    exact endsQueued_kept (takeNow_keepsQueues (actSetNoticeMask_keepsQueues t mask) t .setNoticeMask) s
  | fetch t count => exact fetch_endsQueued t count s
  | portReset t => exact portReset_endsQueued t s
  | portResetRelease t => exact portResetRelease_endsQueued t s
  | imageSendEnd => exact endsQueued_kept endImageSend_keepsQueues s
  | transmitFrameDone => exact endsQueued_kept endFrameSend_keepsQueues s
  | ack epoch send => exact endsQueued_kept (takeAck_keepsQueues epoch send) s
  | nak epoch send => exact endsQueued_kept (takeNak_keepsQueues epoch send) s
  | plrxFrameDiscard bytes => exact endsQueued_next (settleDue_keepsQueues s)
  | measurementReport bytes strayBits => exact endsQueued_settled (arriveReport_queuesOk bytes strayBits) s
  | reportEvaluationBegin => exact reportEvaluationBegin_endsQueued s
  | reportEvaluation => exact reportEvaluation_endsQueued s
  | chipSelectAsserted t => exact chipSelect_endsQueued t s
  | reportTransferBegin =>
    exact endsQueued_settled (f := fun s => { s with transfer := some s.mready }) beginTransfer_queuesOk s

/-- Settles O56: a notice, a record or a report joins its queue only with a place in it, and a record takes the next sequence. -/
theorem stepKeepsQueues : Obligations.StepKeepsQueues := by
  intro s t ok hstep
  unfold step at hstep
  split at hstep
  · cases hstep
    exact ok
  · next c rest _ =>
    obtain ⟨u, heq, hu⟩ := exec_endsQueued c { s with pending := rest }
    cases heq.symm.trans hstep
    have popped : KeepsQueues s { s with pending := rest } := keepsQueues_of_same rfl
    exact hu (popped.queuesOk ok)

end Sys2Proof.Proofs
end

section
/-! PROOFS. READ_LOG (R146). -/

namespace Sys2Proof.Proofs

open Machine Safety Laws

/-- READ_LOG passes the checks of R165 for an isolated tenant, and in every mode but OFFLINE (R154, R165). -/
theorem requestCheck_readLog {s : State} {p : Profile} {t : Tenant} (running : s.device = .running p)
    (may : (s.record t).isolated = true ∨ (s.port t).mode ≠ .offline) : requestCheck t .readLog s = none := by
  have device := deviceState_running running
  by_cases isolated : (s.record t).isolated = true
  · simp [requestCheck, device, isolated, answeredIsolated]
  · have mode := may.resolve_left isolated
    have allowed : (s.port t).mode.allows .readLog = true := by
      generalize (s.port t).mode = m at mode ⊢
      cases m with
      | offline => exact absurd rfl mode
      | config | active | paused => rfl
    simp [requestCheck, device, isolated, allowed]

/-- A request whose checks pass is taken on the state its acceptance leaves, and answered in the same step (R169). -/
theorem takeNow_accepted {s : State} {t : Tenant} {k : FrameKind} (h : Accepting s t) (passes : requestCheck t k s = none)
    (act : State → State × Answer) : takeNow t k act s = (let taken := act (accept t (k.length.getD 0) s)
      respond t k taken.2 taken.1) := by
  have keeps (q : Port) (mode : q.mode = (s.port t).mode) : requestCheck t k (s.setPort t q) = none :=
    (requestCheck_setPort s t k q mode).trans passes
  have accepted : (endRequestFrame t (k.length.getD 0) s).setPort t
      { (endRequestFrame t (k.length.getD 0) s).port t with response := none } = accept t (k.length.getD 0) s := by
    simp [endRequestFrame, accept]
  rw [takeNow_eq t k act s h.awake h.empty, accepted]
  rw [accepted]
  exact keeps _ rfl

/-- An act that changes nothing on acceptance leaves the answer in the port alone (R146). -/
theorem exec_readLog {s : State} {p : Profile} {t : Tenant} {start : BitVec 16} {limit : Byte} {code : ResponseCode}
    {body : ResponseBody} (h : Accepting s t) (running : s.device = .running p)
    (may : (s.record t).isolated = true ∨ (s.port t).mode ≠ .offline)
    (acts : ∀ u : State, u.log = s.log → u.logSeq = s.logSeq → actReadLog start limit u = (u, code, body)) :
    exec (.readLog t start limit) s = .next (s.setPort t (answered .readLog code body 4 (s.port t))) := by
  rw [exec, execReadLog, settleDue_settled s h.settled, takeNow_accepted h (requestCheck_readLog running may)]
  dsimp only
  rw [acts (accept t _ s) rfl rfl]
  simp [respond, accept, answered, FrameKind.length]

section
variable {s : State} {start : BitVec 16} {limit : Byte}

theorem actReadLog_badField (outside : limit.toNat = 0 ∨ 8 < limit.toNat) :
    actReadLog start limit s = (s, .badField, .empty) := by
  have bad : limit.toNat < 1 ∨ 8 < limit.toNat := outside.imp_left Nat.lt_one_iff.mpr
  rw [actReadLog, if_pos bad]
  rfl

variable (least : 1 ≤ limit.toNat) (most : limit.toNat ≤ 8)
include least most

theorem limit_ok : ¬ (limit.toNat < 1 ∨ 8 < limit.toNat) := not_or.mpr ⟨Nat.not_lt.mpr least, Nat.not_lt.mpr most⟩

/-- From the next sequence on there is no record (R146). -/
theorem actReadLog_next (next : start = s.logSeq) :
    actReadLog start limit s = (s, .ok, .log s.logSeq s.log.length false []) := by
  rw [actReadLog, if_neg (limit_ok least most), if_pos next]
  simp only [List.take_nil]

/-- From the record of the sequence on (R146). -/
theorem actReadLog_held (other : start ≠ s.logSeq) {older newer : List Violation} {v : Violation} (log : s.log = older ++ v :: newer)
    (found : v.seq = start) (first : ∀ u ∈ older, u.seq ≠ start) :
    actReadLog start limit s = (s, .ok, .log s.logSeq s.log.length false ((v :: newer).take limit.toNat)) := by
  have holds : (s.log.any fun v => decide (v.seq = start)) = true :=
    List.any_eq_true.mpr ⟨v, by simp [log], decide_eq_true found⟩
  have from_v : (s.log.dropWhile fun v => decide (v.seq ≠ start)) = v :: newer := by
    rw [log, List.dropWhile_append_of_pos fun u hu => decide_eq_true (first u hu), List.dropWhile_cons_of_neg (by simp [found])]
  rw [actReadLog, if_neg (limit_ok least most), if_neg other, if_pos holds, from_v]

/-- From the oldest record on, with lost set, when the log does not hold the sequence (R146). -/
theorem actReadLog_lost (other : start ≠ s.logSeq) (absent : ∀ v ∈ s.log, v.seq ≠ start) :
    actReadLog start limit s = (s, .ok, .log s.logSeq s.log.length true (s.log.take limit.toNat)) := by
  have misses : ¬ (s.log.any fun v => decide (v.seq = start)) = true := by simpa using absent
  rw [actReadLog, if_neg (limit_ok least most), if_neg other, if_neg misses]

end

/-- Settles O11, by the lines of R146. -/
theorem logIsRead : Obligations.LogIsRead := by
  intro s p t start limit h running may ends log
  refine ⟨fun outside => exec_readLog h running may fun u _ _ => actReadLog_badField outside, fun least most => ⟨fun next => ?_,
    fun other older v newer held found first => ?_, fun other absent => ?_⟩⟩ <;>
    refine exec_readLog h running may fun u sameLog sameSeq => ?_
  · rw [actReadLog_next least most (next.trans sameSeq.symm), sameSeq, sameLog]
    simp only [log, List.take_nil]
  · rw [actReadLog_held least most (sameSeq ▸ other) (sameLog.trans held) found first, sameSeq, sameLog]
  · rw [actReadLog_lost least most (sameSeq ▸ other) (sameLog ▸ absent), sameSeq, sameLog]

end Sys2Proof.Proofs
end

section
/-! PROOFS. The measurement link: the reading of a report's frame, and what its arrival makes of the queue (R132 to R135, R177). -/

namespace Sys2Proof.Proofs

open Machine Safety Laws

/-! ### The frame of a report (R177) -/

/-- What a report frame that passes its checks is: whole bytes, a length of 5 + count, and its own CRC at the end. -/
structure FramePasses (bytes : List Byte) (strayBits : Bool) : Prop where
  whole  : strayBits = false
  long   : 3 ≤ bytes.length
  length : bytes.length = 5 + u8 bytes 2
  crc    : crc16 (bytes.take (bytes.length - 2)) = BitVec.ofNat 16 (u16 bytes (bytes.length - 2))

theorem reportFrameOk_iff (bytes : List Byte) (strayBits : Bool) :
    reportFrameOk bytes strayBits = true ↔ FramePasses bytes strayBits := by
  simp only [reportFrameOk, Bool.and_eq_true, Bool.not_eq_true', decide_eq_true_eq]
  exact ⟨fun ⟨⟨⟨whole, long⟩, length⟩, crc⟩ => ⟨whole, long, length, crc⟩, fun h => ⟨⟨⟨h.whole, h.long⟩, h.length⟩, h.crc⟩⟩

/-- The run of granules that a report names lies in the grid, and its count in 1..32 (R132). -/
structure RunPasses (bytes : List Byte) : Prop where
  least : 1 ≤ u8 bytes 2
  most  : u8 bytes 2 ≤ 32
  grid  : u16 bytes 0 + u8 bytes 2 - 1 ≤ Config.lastGranule

theorem readReport_eq (bytes : List Byte) (strayBits : Bool) (frame : FramePasses bytes strayBits) (run : RunPasses bytes) :
    readReport bytes strayBits = some ⟨u16 bytes 0, ((bytes.drop 3).take (u8 bytes 2)).map clampValue⟩ :=
  if_pos ⟨(reportFrameOk_iff bytes strayBits).mpr frame, run.least, run.most, run.grid⟩

/-- A report that is read has passed both tests, and carries its clamped values. -/
theorem readReport_some {bytes : List Byte} {strayBits : Bool} {r : Report} (h : readReport bytes strayBits = some r) :
    FramePasses bytes strayBits ∧ RunPasses bytes
      ∧ r = ⟨u16 bytes 0, ((bytes.drop 3).take (u8 bytes 2)).map clampValue⟩ := by
  unfold readReport at h
  dsimp only at h
  split at h
  · next passes =>
    obtain ⟨frame, least, most, grid⟩ := passes
    exact ⟨(reportFrameOk_iff bytes strayBits).mp frame, ⟨least, most, grid⟩, (Option.some.inj h).symm⟩
  · cases h

theorem readReport_badFrame {bytes : List Byte} {strayBits : Bool} (bad : ¬ FramePasses bytes strayBits) :
    readReport bytes strayBits = none :=
  Option.eq_none_iff_forall_ne_some.mpr fun _ h => bad (readReport_some h).1

theorem readReport_badRun {bytes : List Byte} {strayBits : Bool} (bad : ¬ RunPasses bytes) : readReport bytes strayBits = none :=
  Option.eq_none_iff_forall_ne_some.mpr fun _ h => bad (readReport_some h).2.1

/-! ### Fields -/

theorem toNat_join16 (hi lo : Byte) : (join16 hi lo).toNat = hi.toNat * 256 + lo.toNat := by
  rw [join16, BitVec.toNat_append, Nat.shiftLeft_eq, Nat.mul_comm, ← Nat.two_pow_add_eq_or_of_lt lo.isLt, Nat.mul_comm]

/-- The last two bytes of a run, as the field that they carry. -/
theorem ofNat_u16_end (body : List Byte) (c1 c0 : Byte) :
    BitVec.ofNat 16 (u16 (body ++ [c1, c0]) body.length) = join16 c1 c0 := by
  have hi : u8 (body ++ [c1, c0]) body.length = c1.toNat := by simp [u8, List.getD_eq_getElem?_getD]
  have lo : u8 (body ++ [c1, c0]) (body.length + 1) = c0.toNat := by simp [u8, List.getD_eq_getElem?_getD]
  rw [u16, hi, lo, ← toNat_join16, BitVec.ofNat_toNat, BitVec.setWidth_eq]

theorem join16_be16 (x : BitVec 16) : join16 (x.extractLsb' 8 8) (x.extractLsb' 0 8) = x := by
  refine BitVec.eq_of_toNat_eq ?_
  rw [toNat_join16, BitVec.extractLsb'_toNat, BitVec.extractLsb'_toNat, Nat.shiftRight_eq_div_pow, Nat.shiftRight_eq_div_pow]
  omega

/-- A frame whose last two bytes are not its CRC fails (R177). -/
theorem crc_of_framePasses {body : List Byte} {c1 c0 : Byte} {strayBits : Bool}
    (frame : FramePasses (body ++ [c1, c0]) strayBits) : join16 c1 c0 = crc16 body := by
  have crc := frame.crc
  have length : (body ++ [c1, c0]).length - 2 = body.length := by simp
  rwa [length, List.take_left, ofNat_u16_end, eq_comm] at crc

/-- A report as the monitor's source sends it (R177). -/
def reportBytes (first : BitVec 16) (values : List Byte) : List Byte :=
  withCrc (be16 first ++ [BitVec.ofNat 8 values.length] ++ values)

section
variable (first : BitVec 16) (values : List Byte)

theorem reportBytes_eq : reportBytes first values = (first.extractLsb' 8 8 :: first.extractLsb' 0 8 ::
    BitVec.ofNat 8 values.length :: values)
      ++ be16 (crc16 (first.extractLsb' 8 8 :: first.extractLsb' 0 8 :: BitVec.ofNat 8 values.length :: values)) := rfl

theorem reportBytes_length : (reportBytes first values).length = 5 + values.length := by
  simp [reportBytes_eq, be16]
  omega

theorem reportBytes_first : u16 (reportBytes first values) 0 = first.toNat := by
  have fields : u16 (reportBytes first values) 0 = (first.extractLsb' 8 8).toNat * 256 + (first.extractLsb' 0 8).toNat := rfl
  rw [fields, ← toNat_join16, join16_be16]

theorem reportBytes_count (small : values.length < 256) : u8 (reportBytes first values) 2 = values.length := by
  have count : u8 (reportBytes first values) 2 = (BitVec.ofNat 8 values.length).toNat := rfl
  rw [count, BitVec.toNat_ofNat]
  exact Nat.mod_eq_of_lt small

theorem reportBytes_values : ((reportBytes first values).drop 3).take values.length = values := List.take_left

theorem reportBytes_framePasses (small : values.length < 256) : FramePasses (reportBytes first values) false where
  whole := rfl
  long := by
    rw [reportBytes_length]
    omega
  length := by rw [reportBytes_length, reportBytes_count first values small]
  crc := by
    rw [reportBytes_eq]
    generalize first.extractLsb' 8 8 :: first.extractLsb' 0 8 :: BitVec.ofNat 8 values.length :: values = body
    have length : (body ++ be16 (crc16 body)).length - 2 = body.length := by simp [be16]
    rw [length, List.take_left, be16, ofNat_u16_end, join16_be16]

theorem reportBytes_run (small : values.length < 256) : RunPasses (reportBytes first values)
    ↔ 1 ≤ values.length ∧ values.length ≤ 32 ∧ first.toNat + values.length - 1 ≤ 1199 := by
  have count := reportBytes_count first values small
  have start := reportBytes_first first values
  constructor
  · rintro ⟨least, most, grid⟩
    rw [count] at least most grid
    rw [start] at grid
    exact ⟨least, most, grid⟩
  · rintro ⟨least, most, grid⟩
    exact ⟨by rwa [count], by rwa [count], by rwa [count, start]⟩

end

/-! ### Values (R133) -/

theorem clampValue_unmeasured : clampValue 127 = none := rfl

theorem clampValue_measured {v : Byte} (h : v ≠ 127) :
    clampValue v = some (if v.toInt < -40 then -40 else if 20 < v.toInt then 20 else v.toInt) := by
  rw [clampValue, if_neg h]
  congr 1
  split
  · omega
  split <;> omega

/-! ### Arrival -/

/-- MREADY is asserted but while RST_n is, and while RUNNING with a full queue (R134). -/
theorem mready_iff (s : State) :
    s.mready = true ↔ s.device ≠ .starting none ∧ ∀ p, s.device = .running p → s.reports.length < 4 := by
  unfold State.mready
  cases s.device with
  | starting load => cases load <;> simp
  | fault reason => simp
  | running p => exact ⟨fun room => ⟨nofun, fun _ _ => of_decide_eq_true room⟩, fun h => decide_eq_true (h.2 p rfl)⟩

section
variable {s : State} {bytes : List Byte} {strayBits : Bool}

theorem arriveReport_joins {p : Profile} {r : Report} (running : s.device = .running p) (mode : p.enforcement ≠ .off)
    (began : s.transfer.getD s.mready = true) (read : readReport bytes strayBits = some r) :
    arriveReport bytes strayBits s = { s with transfer := none, reports := s.reports ++ [r] } := by
  simp only [arriveReport, read, profile?_of_running running, began, mode, ne_eq, not_false_eq_true, and_self, if_true]

/-- A report that fails a test, or that nobody takes, leaves no trace (R132, R134, R135). -/
theorem arriveReport_discards (h : (∀ p, s.device = .running p → p.enforcement = .off) ∨ s.transfer.getD s.mready = false
      ∨ readReport bytes strayBits = none) : arriveReport bytes strayBits s = { s with transfer := none } := by
  unfold arriveReport
  dsimp only
  split
  · next r p read running =>
    refine if_neg fun ⟨began, mode⟩ => ?_
    rcases h with off | late | unread
    · exact mode (off p (device_of_profile? running))
    · cases began.symm.trans late
    · cases read.symm.trans unread
  · rfl

theorem exec_measurementReport (settled : Settled s) :
    exec (.measurementReport bytes strayBits) s = .next (arriveReport bytes strayBits s) := by
  rw [exec, execMeasurementReport, settleDue_settled s settled]

end

theorem exec_reportTransferBegin {s : State} (settled : Settled s) :
    exec .reportTransferBegin s = .next { s with transfer := some s.mready } := by
  rw [exec, execReportTransferBegin, settleDue_settled s settled]

/-- The report that a frame as R177 gives it carries. -/
theorem readReport_reportBytes {first : BitVec 16} {values : List Byte} (least : 1 ≤ values.length) (most : values.length ≤ 32)
    (grid : first.toNat + values.length - 1 ≤ 1199) :
    readReport (reportBytes first values) false = some ⟨first.toNat, values.map clampValue⟩ := by
  have small : values.length < 256 := by omega
  rw [readReport_eq _ _ (reportBytes_framePasses first values small)
    ((reportBytes_run first values small).mpr ⟨least, most, grid⟩), reportBytes_first, reportBytes_count first values small,
    reportBytes_values]

/-- Settles O44: the reading of a report's frame, then its arrival. -/
theorem reportsArrive : Obligations.ReportsArrive := by
  refine ⟨fun s settled => ⟨exec_reportTransferBegin settled, mready_iff s⟩, fun s bytes strayBits settled => ⟨?_, ?_⟩,
    fun first values => ⟨fun least most grid => ?_, fun bad small => ?_⟩, fun bytes strayBits bad => ?_, fun bytes => ⟨?_, ?_⟩⟩
  · intro p r running mode began read
    rw [exec_measurementReport settled, arriveReport_joins running mode began read]
  · intro h
    rw [exec_measurementReport settled, arriveReport_discards h]
  · refine ⟨_, readReport_reportBytes least most grid, rfl, List.length_map _, fun i v h => ?_⟩
    rw [List.getElem?_map, h, Option.map_some]
    split
    · next unmeasured => rw [unmeasured, clampValue_unmeasured]
    · next measured => rw [clampValue_measured measured]
  · refine readReport_badRun fun run => ?_
    have passes := (reportBytes_run first values small).mp run
    omega
  · refine readReport_badFrame fun frame => ?_
    rcases bad with short | ⟨count, third, other⟩
    · exact Nat.not_lt.mpr frame.long short
    · refine other ?_
      rw [frame.length, u8, List.getD_eq_getElem?_getD, third]
      rfl
  · exact readReport_badFrame fun frame => Bool.noConfusion frame.whole
  · intro body c1 c0 split wrong
    refine readReport_badFrame fun frame => wrong (crc_of_framePasses (strayBits := false) ?_)
    exact split ▸ frame

end Sys2Proof.Proofs
end

section
/-! PROOFS. How a granule is judged, and to whom a STRAY finding is attributed (R133, R137 to R139). -/

namespace Sys2Proof.Proofs

open Machine Safety Laws

/-! ### The cases of a judgement -/

theorem isChanged_iff (s : State) (g : Nat) :
    s.isChanged g = true ↔ ∃ c ∈ s.changed, c.first ≤ g ∧ g < c.first + c.width := by
  simp [State.isChanged, covers]

section
variable {p : Profile} {s : State} {g : Nat} (v : Int)

theorem judge_unmeasured (p : Profile) (s : State) (g : Nat) : judge p s g none = (none, none) := rfl

theorem judge_changed (changed : s.isChanged g = true) : judge p s g (some v) = (none, none) := by
  simp only [judge, changed, if_true]

variable (stands : s.isChanged g = false)
include stands

/-- A granule of an on-air span is tested for OVERPOWER (R138). -/
theorem judge_covered {a : Asked} {q : Placed} (covered : coveringOnAir s.onAir g = some (a, q)) :
    judge p s g (some v) = (some a.tenant,
      if 0 < v - q.density - p.overMargin then some ⟨g, .overpower, some a.tenant, v - q.density - p.overMargin⟩ else none) := by
  simp only [judge, stands, covered, Bool.false_eq_true, if_false]

/-- Any other is tested for STRAY (R139). -/
theorem judge_uncovered (uncovered : coveringOnAir s.onAir g = none) : judge p s g (some v) = (none,
    if 0 < v - p.strayLimit then some ⟨g, .stray, strayParty s.onAir p.strayReach g, v - p.strayLimit⟩ else none) := by
  simp only [judge, stands, uncovered, Bool.false_eq_true, if_false]

end

theorem covers_iff (first width g : Nat) : covers first width g = true ↔ first ≤ g ∧ g < first + width := by
  simp [covers]

theorem coveringOnAir_only {onAir : List (Asked × Placed)} {g : Nat} {x : Asked × Placed} (mem : x ∈ onAir)
    (inside : x.2.first ≤ g ∧ g < x.2.first + x.1.width)
    (only : ∀ y ∈ onAir, y.2.first ≤ g ∧ g < y.2.first + y.1.width → y = x) : coveringOnAir onAir g = some x := by
  unfold coveringOnAir
  cases found : onAir.find? fun x => covers x.2.first x.1.width g with
  | none => exact absurd ((covers_iff _ _ _).mpr inside) (List.find?_eq_none.mp found x mem)
  | some y =>
    have covered : covers y.2.first y.1.width g = true :=
      List.find?_some (p := fun x : Asked × Placed => covers x.2.first x.1.width g) found
    rw [only y (List.mem_of_find?_eq_some found) ((covers_iff _ _ _).mp covered)]

theorem coveringOnAir_none {onAir : List (Asked × Placed)} {g : Nat}
    (outside : ∀ x ∈ onAir, ¬ (x.2.first ≤ g ∧ g < x.2.first + x.1.width)) : coveringOnAir onAir g = none :=
  List.find?_eq_none.mpr fun x mem covered => outside x mem ((covers_iff _ _ _).mp covered)

/-! ### Attribution (R139) -/

/-- The distance from a granule to a span of the plan. -/
def spanDistance (g : Nat) (x : Asked × Placed) : Nat := distance g x.2.first x.1.width

theorem tenantDistance_eq (onAir : List (Asked × Placed)) (reach g : Nat) (t : Tenant) : tenantDistance onAir reach g t
    = (((onAir.filter fun x => decide (x.1.tenant = t)).map (spanDistance g)).filter fun d => decide (d ≤ reach)).min? := rfl

theorem mem_distances {onAir : List (Asked × Placed)} {reach g : Nat} {t : Tenant} {d : Nat} :
    d ∈ ((onAir.filter fun x => decide (x.1.tenant = t)).map (spanDistance g)).filter (fun d => decide (d ≤ reach))
      ↔ (∃ x ∈ onAir, x.1.tenant = t ∧ spanDistance g x = d) ∧ d ≤ reach := by
  simp only [List.mem_filter, List.mem_map, decide_eq_true_eq, and_assoc]

/-- A tenant's distance is that of its nearest on-air span within reach. -/
theorem tenantDistance_some {onAir : List (Asked × Placed)} {reach g : Nat} {t : Tenant} {d : Nat}
    (h : tenantDistance onAir reach g t = some d) : (∃ x ∈ onAir, x.1.tenant = t ∧ spanDistance g x = d) ∧ d ≤ reach
      ∧ ∀ y ∈ onAir, y.1.tenant = t → spanDistance g y ≤ reach → d ≤ spanDistance g y := by
  rw [tenantDistance_eq, List.min?_eq_some_iff] at h
  obtain ⟨mem, least⟩ := h
  obtain ⟨attained, within⟩ := mem_distances.mp mem
  exact ⟨attained, within, fun y hy own near => least _ (mem_distances.mpr ⟨⟨y, hy, own, rfl⟩, near⟩)⟩

theorem tenantDistance_none {onAir : List (Asked × Placed)} {reach g : Nat} {t : Tenant}
    (h : tenantDistance onAir reach g t = none) : ∀ y ∈ onAir, y.1.tenant = t → reach < spanDistance g y := by
  intro y hy own
  rw [tenantDistance_eq, List.min?_eq_none_iff] at h
  refine Nat.not_le.mp fun near => ?_
  have mem := mem_distances.mpr ⟨⟨y, hy, own, rfl⟩, near⟩
  rw [h] at mem
  cases mem

/-- The tenant has an on-air span within reach that is nearer than every other tenant's. -/
def Nearest (onAir : List (Asked × Placed)) (reach g : Nat) (t : Tenant) : Prop :=
  ∃ x ∈ onAir, x.1.tenant = t ∧ spanDistance g x ≤ reach ∧ ∀ y ∈ onAir, y.1.tenant ≠ t → spanDistance g x < spanDistance g y

theorem Nearest.unique {onAir : List (Asked × Placed)} {reach g : Nat} {t u : Tenant} (ht : Nearest onAir reach g t)
    (hu : Nearest onAir reach g u) : t = u := by
  obtain ⟨x, hx, rfl, _, nearer⟩ := ht
  obtain ⟨y, hy, rfl, _, nearer'⟩ := hu
  by_contra other
  exact absurd (nearer y hy (Ne.symm other)) (Nat.lt_asymm (nearer' x hx other))

/-- The test of a tenant that `strayParty` makes. -/
def isNearest (onAir : List (Asked × Placed)) (reach g : Nat) (t : Tenant) : Bool :=
  match tenantDistance onAir reach g t with
  | none => false
  | some d => allTenants.all fun u => decide (u = t) ||
      match tenantDistance onAir reach g u with
      | none => true
      | some d' => decide (d < d')

theorem strayParty_eq (onAir : List (Asked × Placed)) (reach g : Nat) :
    strayParty onAir reach g = allTenants.find? (isNearest onAir reach g) := rfl

theorem isNearest_iff (onAir : List (Asked × Placed)) (reach g : Nat) (t : Tenant) :
    isNearest onAir reach g t = true ↔ Nearest onAir reach g t := by
  unfold isNearest
  cases ht : tenantDistance onAir reach g t with
  | none =>
    refine ⟨nofun, fun ⟨x, hx, own, near, _⟩ => ?_⟩
    exact absurd near (Nat.not_le.mpr (tenantDistance_none ht x hx own))
  | some d =>
    obtain ⟨⟨x, hx, own, rfl⟩, near, least⟩ := tenantDistance_some ht
    simp only [List.all_eq_true, Bool.or_eq_true, decide_eq_true_eq]
    constructor
    · intro nearer
      refine ⟨x, hx, own, near, fun y hy other => ?_⟩
      have test := (nearer y.1.tenant (mem_allTenants _)).resolve_left other
      cases hu : tenantDistance onAir reach g y.1.tenant with
      | none => exact near.trans_lt (tenantDistance_none hu y hy rfl)
      | some d' =>
        rw [hu] at test
        have below : spanDistance g x < d' := of_decide_eq_true test
        obtain ⟨_, within, least'⟩ := tenantDistance_some hu
        by_cases close : spanDistance g y ≤ reach
        · exact below.trans_le (least' y hy rfl close)
        · exact near.trans_lt (Nat.not_le.mp close)
    · rintro ⟨z, hz, mine, reached, nearer⟩ u -
      refine or_iff_not_imp_left.mpr fun other => ?_
      cases hu : tenantDistance onAir reach g u with
      | none => rfl
      | some d' =>
        obtain ⟨⟨y, hy, theirs, rfl⟩, _, _⟩ := tenantDistance_some hu
        have first := nearer y hy (theirs ▸ other)
        exact decide_eq_true ((least z hz mine reached).trans_lt first)

/-- A STRAY finding is attributed to the tenant that is nearest within reach, or to none (R139). -/
theorem strayParty_iff (onAir : List (Asked × Placed)) (reach g : Nat) (t : Tenant) :
    strayParty onAir reach g = some t ↔ Nearest onAir reach g t := by
  rw [strayParty_eq]
  constructor
  · intro found
    exact (isNearest_iff onAir reach g t).mp (List.find?_some found)
  · intro nearest
    cases found : allTenants.find? (isNearest onAir reach g) with
    | none => exact absurd ((isNearest_iff onAir reach g t).mpr nearest) (List.find?_eq_none.mp found t (mem_allTenants t))
    | some u => rw [((isNearest_iff onAir reach g u).mp (List.find?_some found)).unique nearest]

/-- The distance to a span that does not cover the granule (R139). -/
theorem spanDistance_outside {g : Nat} {x : Asked × Placed} (outside : ¬ (x.2.first ≤ g ∧ g < x.2.first + x.1.width)) :
    spanDistance g x = if g < x.2.first then x.2.first - g else g - (x.2.first + x.1.width - 1) := by
  unfold spanDistance distance
  split
  · rfl
  · exact if_pos (by omega)

/-- Settles O46, by the judgement's cases and what a tenant's distance is. -/
theorem granulesAreJudged : Obligations.GranulesAreJudged := by
  intro s p g inside away
  refine ⟨judge_unmeasured p s g, fun v => ⟨fun changed => ?_, fun unchanged => ?_⟩⟩
  · exact judge_changed v ((isChanged_iff s g).mpr changed)
  have stands : s.isChanged g = false := by
    rw [← Bool.not_eq_true, isChanged_iff]
    rintro ⟨c, hc, covered⟩
    exact unchanged c hc covered
  refine ⟨fun a q onAir covers only => ?_, fun outside _ => ?_⟩
  · rw [judge_covered v stands (coveringOnAir_only onAir covers only)]
    refine ⟨fun within => ?_, fun above => ?_⟩
    · rw [if_neg (by omega)]
    · rw [if_pos (by omega)]
  · rw [judge_uncovered v stands (coveringOnAir_none outside)]
    refine ⟨fun within => ?_, fun above => ⟨strayParty s.onAir p.strayReach g, ?_, fun t => ?_⟩⟩
    · rw [if_neg (by omega)]
    · rw [if_pos (by omega)]
    · have distance (x : Asked × Placed) (hx : x ∈ s.onAir) : spanDistance g x = away x :=
        spanDistance_outside (outside x hx)
      rw [strayParty_iff]
      constructor
      · rintro ⟨x, hx, own, near, nearer⟩
        exact ⟨x, hx, own, distance x hx ▸ near, fun y hy other => distance x hx ▸ distance y hy ▸ nearer y hy other⟩
      · rintro ⟨x, hx, own, near, nearer⟩
        refine ⟨x, hx, own, (distance x hx).trans_le near, fun y hy other => ?_⟩
        rw [distance x hx, distance y hy]
        exact nearer y hy other

/-! ### Values at or below −40 (R133) -/

/-- Where every granted density is at least −8, a value of −40 is under every limit of a legal profile (R133). -/
theorem judge_quiet {s : State} {p : Profile} (legal : LegalProfile p) (g : Nat)
    (granted : ∀ a q, (a, q) ∈ s.onAir → -8 ≤ q.density) : (judge p s g (some (-40))).2 = none := by
  obtain ⟨margin, _⟩ := legal.overMargin
  obtain ⟨stray, _, _⟩ := legal.stray
  cases changed : s.isChanged g with
  | true => rw [judge_changed _ changed]
  | false =>
    cases covered : coveringOnAir s.onAir g with
    | none =>
      rw [judge_uncovered _ changed covered]
      exact if_neg (by omega)
    | some x =>
      obtain ⟨a, q⟩ := x
      have density := granted a q (List.mem_of_find?_eq_some covered)
      rw [judge_covered _ changed covered]
      exact if_neg (by omega)

theorem toInt_127 : (127 : Byte).toInt = 127 := rfl

/-- A value that does not read 127 is measured. -/
theorem measured_of_toInt {v : Byte} (h : v.toInt < 127) : v ≠ 127 := fun same => by
  rw [same, toInt_127] at h
  exact absurd h (lt_irrefl _)

theorem clampValue_low {v : Byte} (low : v.toInt ≤ -40) : clampValue v = some (-40) := by
  rw [clampValue_measured (measured_of_toInt (by omega))]
  congr 1
  split
  · rfl
  · rw [if_neg (by omega)]
    omega

/-- Settles O45: each value is clamped alone, and what is clamped to −40 is under every limit. -/
theorem valuesAreClamped : Obligations.ValuesAreClamped := by
  refine ⟨fun v => ⟨fun unmeasured => ?_, fun low => clampValue_low (by omega), fun low high => ?_, fun low high => ?_⟩,
    fun bytes strayBits r read => ?_, fun s p g v legal granted quiet => ?_⟩
  · rw [unmeasured, clampValue_unmeasured]
  · rw [clampValue_measured (measured_of_toInt (by omega)), if_neg (by omega), if_neg (by omega)]
  · rw [clampValue_measured (measured_of_toInt (by omega)), if_neg (by omega), if_pos (by omega)]
  · obtain ⟨frame, _, rfl⟩ := readReport_some read
    have count : bytes.length - 5 = u8 bytes 2 := by
      have length := frame.length
      omega
    rw [count]
  · rcases quiet with unmeasured | low
    · rw [unmeasured, clampValue_unmeasured, judge_unmeasured]
    · rw [clampValue_low low]
      exact judge_quiet legal g granted

end Sys2Proof.Proofs
end

section
/-! PROOFS. The records that a report's evaluation makes (R140, R141). -/

namespace Sys2Proof.Proofs

open Machine Safety Laws

/-! ### Kind and party -/

/-- The kind and party that a record is of. -/
def keyOf (v : Violation) : ViolationKind × Option Tenant := (v.kind, v.tenant)

/-- One kind and party comes before another in the order in which records join the log (R140). -/
abbrev KeyBefore (x y : ViolationKind × Option Tenant) : Prop :=
  x.1 = .overpower ∧ y.1 = .stray ∨ x.1 = y.1 ∧ ∃ t, x.2 = some t ∧ ∀ t', y.2 = some t' → t.val < t'.val

theorem recordOrder_pairwise : recordOrder.Pairwise KeyBefore := by decide

theorem mem_recordOrder {kind : ViolationKind} {party : Option Tenant} (h : kind = .overpower → party ≠ none) :
    (kind, party) ∈ recordOrder := by
  cases party with
  | some t => cases kind <;> simp [recordOrder, mem_allTenants]
  | none =>
    cases kind with
    | overpower => exact absurd rfl (h rfl)
    | stray => simp [recordOrder]

/-! ### Findings -/

/-- An OVERPOWER finding has its granule's tenant for party (R138). -/
theorem judge_party {p : Profile} {s : State} {g : Nat} {value : Option Int} {f : Finding} (h : (judge p s g value).2 = some f)
    (overpower : f.kind = .overpower) : f.party ≠ none := by
  cases value with
  | none => cases h
  | some v =>
    cases changed : s.isChanged g with
    | true =>
      rw [judge_changed v changed] at h
      cases h
    | false =>
      cases covered : coveringOnAir s.onAir g with
      | none =>
        rw [judge_uncovered v changed covered] at h
        obtain ⟨_, made⟩ := Option.ite_none_right_eq_some.mp h
        cases made
        cases overpower
      | some x =>
        rw [judge_covered v changed covered] at h
        obtain ⟨_, made⟩ := Option.ite_none_right_eq_some.mp h
        cases made
        exact Option.some_ne_none _

theorem mem_judgeAll {p : Profile} {s : State} {values : List (Option Int)} {first : Nat} {j : Option Tenant × Option Finding}
    (h : j ∈ judgeAll p s first values) : ∃ g value, j = judge p s g value := by
  induction values generalizing first with
  | nil => cases h
  | cons v rest ih =>
    rcases List.mem_cons.mp h with rfl | later
    · exact ⟨first, v, rfl⟩
    · exact ih later

theorem key_of_finding {p : Profile} {s : State} {r : Report} {f : Finding} (h : f ∈ findingsOf p s r) :
    (f.kind, f.party) ∈ recordOrder := by
  obtain ⟨j, hj, found⟩ := List.mem_filterMap.mp h
  obtain ⟨g, value, rfl⟩ := mem_judgeAll hj
  exact mem_recordOrder (judge_party found)

/-! ### Merging -/

/-- The worst of some excesses is one of them and none is above it. -/
theorem foldl_worst (fs : List Finding) (w : Int) :
    let worst := fs.foldl (fun w x => max w x.excess) w
    (worst = w ∨ ∃ x ∈ fs, x.excess = worst) ∧ w ≤ worst ∧ ∀ x ∈ fs, x.excess ≤ worst := by
  induction fs generalizing w with
  | nil => exact ⟨.inl rfl, le_rfl, nofun⟩
  | cons f fs ih =>
    obtain ⟨attained, above, most⟩ := ih (max w f.excess)
    refine ⟨?_, (le_max_left _ _).trans above, List.forall_mem_cons.mpr ⟨(le_max_right _ _).trans above, most⟩⟩
    rcases attained with first | ⟨x, hx, same⟩
    · rcases max_choice w f.excess with left | right
      · exact .inl (first.trans left)
      · exact .inr ⟨f, List.mem_cons_self, (first.trans right).symm⟩
    · exact .inr ⟨x, List.mem_cons_of_mem f hx, same⟩

/-- The findings that are merged into one record. -/
def findingsFor (findings : List Finding) (key : ViolationKind × Option Tenant) : List Finding :=
  findings.filter fun f => decide (f.kind = key.1) && decide (f.party = key.2)

/-- What a merged record holds (R140). -/
structure Merged (s : State) (findings : List Finding) (key : ViolationKind × Option Tenant) (v : Violation) : Prop where
  same  : keyOf v = key
  frame : v.frame = s.frameCounter
  epoch : v.epoch = s.epoch
  found : ∃ f fs, findingsFor findings key = f :: fs ∧ v.first = f.granule ∧ v.count = (f :: fs).length
    ∧ (∃ x ∈ f :: fs, x.excess = v.worst) ∧ ∀ x ∈ f :: fs, x.excess ≤ v.worst

theorem mergeRecord_none {s : State} {findings : List Finding} {key : ViolationKind × Option Tenant} :
    mergeRecord s findings key = none ↔ findingsFor findings key = [] := by
  unfold mergeRecord findingsFor
  split <;> simp [*]

theorem mergeRecord_some {s : State} {findings : List Finding} {key : ViolationKind × Option Tenant} {v : Violation}
    (h : mergeRecord s findings key = some v) : Merged s findings key v := by
  unfold mergeRecord at h
  split at h
  · cases h
  · next f fs found =>
    cases h
    obtain ⟨attained, above, most⟩ := foldl_worst fs f.excess
    refine ⟨rfl, rfl, rfl, f, fs, found, rfl, rfl, ?_, List.forall_mem_cons.mpr ⟨above, most⟩⟩
    rcases attained with first | ⟨x, hx, same⟩
    · exact ⟨f, List.mem_cons_self, first.symm⟩
    · exact ⟨x, List.mem_cons_of_mem f hx, same⟩

/-! ### The records of an evaluation -/

/-- The records keep the order of the kinds and parties that have findings. -/
theorem merged_keys (s : State) (findings : List Finding) (keys : List (ViolationKind × Option Tenant)) :
    ((keys.filterMap (mergeRecord s findings)).map keyOf).Sublist keys := by
  induction keys with
  | nil => exact .slnil
  | cons key keys ih =>
    cases h : mergeRecord s findings key with
    | none =>
      rw [List.filterMap_cons_none h]
      exact ih.cons key
    | some v =>
      rw [List.filterMap_cons_some h, List.map_cons, (mergeRecord_some h).same]
      exact ih.cons_cons key

section
variable (p : Profile) (r : Report) (s : State)

theorem loggedRecords_keys : (loggedRecords p r s).map keyOf = (newRecords p r s).map keyOf :=
  joinAll_map keyOf (fun _ _ => rfl) _ _

theorem loggedRecords_length : (loggedRecords p r s).length = (newRecords p r s).length := joinAll_length _ _

/-- A logged record is a merged one with its sequence (R140, R141). -/
theorem loggedRecords_getElem? {i : Nat} {v : Violation} (h : (loggedRecords p r s)[i]? = some v) :
    v.seq = s.logSeq + BitVec.ofNat 16 i ∧ ∃ key, Merged s (findingsOf p s r) key v := by
  rw [loggedRecords, joinAll_getElem?] at h
  obtain ⟨w, made, rfl⟩ := Option.map_eq_some_iff.mp h
  obtain ⟨key, _, merged⟩ := List.mem_filterMap.mp (List.mem_of_getElem? made)
  obtain ⟨same, frame, epoch, found⟩ := mergeRecord_some merged
  exact ⟨rfl, key, same, frame, epoch, found⟩

/-- Every kind and party with a finding has a record (R140). -/
theorem loggedRecords_every {f : Finding} (h : f ∈ findingsOf p s r) : ∃ v ∈ loggedRecords p r s, keyOf v = (f.kind, f.party) := by
  have mine : f ∈ findingsFor (findingsOf p s r) (f.kind, f.party) := List.mem_filter.mpr ⟨h, by simp⟩
  obtain ⟨w, merged⟩ : ∃ w, mergeRecord s (findingsOf p s r) (f.kind, f.party) = some w := by
    refine Option.ne_none_iff_exists'.mp fun none => ?_
    rw [mergeRecord_none.mp none] at mine
    cases mine
  have made : (f.kind, f.party) ∈ (newRecords p r s).map keyOf :=
    List.mem_map.mpr ⟨w, List.mem_filterMap.mpr ⟨_, key_of_finding h, merged⟩, (mergeRecord_some merged).same⟩
  rw [← loggedRecords_keys] at made
  exact List.mem_map.mp made

/-- The records that join the log are those that R140 and R141 name. -/
theorem recordsOf_logged : RecordsOf p s r (loggedRecords p r s) where
  ordered := by
    have keys := recordOrder_pairwise.sublist (merged_keys s (findingsOf p s r) recordOrder)
    rw [← newRecords, ← loggedRecords_keys] at keys
    exact List.pairwise_map.mp keys
  merged i v h := by
    obtain ⟨seq, _, ⟨rfl, frame, epoch, found⟩⟩ := loggedRecords_getElem? p r s h
    exact ⟨seq, frame, epoch, found⟩
  every f h := by
    obtain ⟨v, hv, key⟩ := loggedRecords_every p r s h
    obtain ⟨kind, party⟩ := Prod.mk.inj key
    exact ⟨v, hv, kind, party⟩

end

end Sys2Proof.Proofs
end

section
/-! PROOFS. Charges, credits and hand-overs, and what a report's evaluation leaves (R136, R140 to R145, R149, R151, R152). -/

namespace Sys2Proof.Proofs

open Machine Safety Laws

/-! ### A charge (R149, R151, R152) -/

section
variable {s : State} {t : Tenant} {p : Profile} {cause : Cause}

theorem charge_isolated (isolated : (s.record t).isolated = true) (n : Nat) : charge p t n cause s = (s, false) := by
  simp [charge, isolated]

theorem credit_isolated (isolated : (s.record t).isolated = true) : credit t cause s = s := by simp [credit, isolated]

/-- The notices of a charge, by the outcome of its two tests. -/
def chargeNotices (p : Profile) (cause : Cause) (counter : Nat) (warn isolate : Bool) : List NoticeBody :=
  (if warn then [.warned counter cause] else []) ++ (if isolate then [.isolated counter cause p.recoveryMode p.recoveryStart] else [])

/-- What a charge makes of its tenant's record, by the outcome of its two tests. -/
def chargedRecord (p : Profile) (n : Nat) (warn isolate : Bool) (c : ConductRecord) : ConductRecord where
  counter := c.counter + n
  warned := c.warned || warn || isolate
  isolated := isolate
  recovery := if isolate then p.recoveryStart else c.recovery

theorem charge_tested {n : Nat} {warn isolate : Bool} (trusted : (s.record t).isolated = false)
    (warns : warn = true ↔ (s.record t).counter < 96 ∧ 96 ≤ (s.record t).counter + n ∧ (s.record t).warned = false)
    (isolates : isolate = true ↔ (s.record t).counter < 128 ∧ 128 ≤ (s.record t).counter + n) :
    charge p t n cause s = ((chargeNotices p cause ((s.record t).counter + n) warn isolate).foldl (fun s body => issue t body s)
      (s.setRecord t (chargedRecord p n warn isolate (s.record t))), isolate) := by
  have warned : (decide ((s.record t).counter < Config.warnAt) && decide (Config.warnAt ≤ (s.record t).counter + n)
      && !(s.record t).warned) = warn := by
    rw [Bool.eq_iff_iff, warns]
    simp only [Bool.and_eq_true, decide_eq_true_eq, Bool.not_eq_true', and_assoc]
    exact Iff.rfl
  have isolated : (decide ((s.record t).counter < Config.isolateAt)
      && decide (Config.isolateAt ≤ (s.record t).counter + n)) = isolate := by
    rw [Bool.eq_iff_iff, isolates]
    simp only [Bool.and_eq_true, decide_eq_true_eq]
    exact Iff.rfl
  simp only [charge, trusted, warned, isolated, Bool.false_eq_true, if_false, chargeNotices, chargedRecord]

section
variable (trusted : (s.record t).isolated = false) {n : Nat}
include trusted

theorem charge_counts (h : (s.record t).counter + n < 96 ∨ ((s.record t).warned = true ∧ (s.record t).counter + n < 128)) :
    charge p t n cause s = (s.setRecord t { s.record t with counter := (s.record t).counter + n }, false) := by
  have silent : false = true ↔ (s.record t).counter < 96 ∧ 96 ≤ (s.record t).counter + n ∧ (s.record t).warned = false := by
    refine ⟨nofun, fun ⟨_, reached, fresh⟩ => ?_⟩
    rcases h with below | ⟨warned, _⟩
    · omega
    · cases warned.symm.trans fresh
  have stays : false = true ↔ (s.record t).counter < 128 ∧ 128 ≤ (s.record t).counter + n := by
    refine ⟨nofun, fun ⟨_, reached⟩ => ?_⟩
    omega
  rw [charge_tested trusted silent stays]
  simp [chargeNotices, chargedRecord, trusted]

theorem charge_warns (reached : 96 ≤ (s.record t).counter + n) (below : (s.record t).counter < 96)
    (fresh : (s.record t).warned = false) (few : n ≤ 8) : charge p t n cause s
      = (issue t (.warned ((s.record t).counter + n) cause)
          (s.setRecord t { s.record t with counter := (s.record t).counter + n, warned := true }), false) := by
  have stays : false = true ↔ (s.record t).counter < 128 ∧ 128 ≤ (s.record t).counter + n := by
    refine ⟨nofun, fun ⟨_, high⟩ => ?_⟩
    omega
  rw [charge_tested (warn := true) trusted ⟨fun _ => ⟨below, reached, fresh⟩, fun _ => rfl⟩ stays]
  simp [chargeNotices, chargedRecord, trusted]

variable (ok : RecordOk (s.record t))
include ok

/-- A tenant that is not isolated is below the isolation threshold (R148). -/
theorem counter_below : (s.record t).counter < 128 := by
  refine Nat.not_le.mp fun high => ?_
  rw [ok.isolated.mpr high] at trusted
  cases trusted

theorem charge_isolating (reached : 128 ≤ (s.record t).counter + n) (few : n ≤ 8) : charge p t n cause s
    = (issue t (.isolated ((s.record t).counter + n) cause p.recoveryMode p.recoveryStart)
        (s.setRecord t { counter := (s.record t).counter + n, warned := true, isolated := true, recovery := p.recoveryStart }),
      true) := by
  have warned : (s.record t).warned = true := ok.warned (by omega)
  have silent : false = true ↔ (s.record t).counter < 96 ∧ 96 ≤ (s.record t).counter + n ∧ (s.record t).warned = false := by
    refine ⟨nofun, fun ⟨_, _, fresh⟩ => ?_⟩
    cases warned.symm.trans fresh
  rw [charge_tested (isolate := true) trusted silent ⟨fun _ => ⟨counter_below trusted ok, reached⟩, fun _ => rfl⟩]
  simp [chargeNotices, chargedRecord]

end

/-! ### A credit (R149, R151) -/

theorem credit_zero (zero : (s.record t).counter = 0) : credit t cause s = s := by simp [credit, zero]

theorem credit_clears (trusted : (s.record t).isolated = false) (at64 : (s.record t).counter = 64) (warned : (s.record t).warned = true) : credit t cause s
    = issue t (.cleared 63 cause) (s.setRecord t { s.record t with counter := 63, warned := false }) := by
  simp [credit, trusted, at64, warned, Config.clearBelow]

theorem credit_counts (trusted : (s.record t).isolated = false) (positive : 0 < (s.record t).counter)
    (h : (s.record t).counter ≠ 64 ∨ (s.record t).warned = false) :
    credit t cause s = s.setRecord t { s.record t with counter := (s.record t).counter - 1 } := by
  have stands : (decide (Config.clearBelow ≤ (s.record t).counter) && decide ((s.record t).counter - 1 < Config.clearBelow)
      && (s.record t).warned) = false := by
    rcases h with other | fresh
    · have crossing : ¬ (Config.clearBelow ≤ (s.record t).counter ∧ (s.record t).counter - 1 < Config.clearBelow) := by
        rw [Config.clearBelow]
        omega
      rw [← Bool.decide_and, decide_eq_false crossing, Bool.false_and]
    · rw [fresh, Bool.and_false]
  have applies : ¬ ((s.record t).isolated = true ∨ (s.record t).counter = 0) := by
    rw [trusted]
    exact not_or.mpr ⟨nofun, positive.ne'⟩
  rw [credit, if_neg applies]
  dsimp only
  simp only [stands, Bool.not_false, Bool.and_true, Bool.false_eq_true, if_false]

/-! ### A hand-over (R144, R145) -/

/-- A restart loads the countdown again where it stands (R155). -/
theorem restartRecovery_eq (p : Profile) (t : Tenant) (s : State) : restartRecovery p t s
    = s.setRecord t { s.record t with recovery := (s.record t).recovery.map fun _ => p.recoveryFrames } := by
  unfold restartRecovery
  dsimp only
  split
  · next stands => rw [stands, Option.map_some]
  · next absent =>
    rw [absent, Option.map_none, ← absent]
    exact (setRecord_self s t).symm

variable {blamed judged : Bool}

theorem handOver_isolated (isolated : (s.record t).isolated = true) :
    handOver p t blamed judged s = (if blamed then restartRecovery p t s else s, false) := by
  simp only [handOver, isolated, if_true]

theorem handOver_spared (trusted : (s.record t).isolated = false) (mode : p.enforcement ≠ .confine) :
    handOver p t blamed judged s = (s, false) := by
  simp only [handOver, trusted, Bool.false_eq_true, if_false, ne_eq, mode, not_false_eq_true, if_true]

theorem handOver_confined (trusted : (s.record t).isolated = false) (mode : p.enforcement = .confine) :
    handOver p t blamed judged s = if blamed then charge p t 8 .violation s
      else if judged then (credit t .cleanCredit s, false) else (s, false) := by
  simp only [handOver, trusted, Bool.false_eq_true, if_false, ne_eq, mode, not_true_eq_false]

end

/-! ### Whose record a hand-over touches -/

theorem record_of_conduct {s u : State} (h : u.conduct = s.conduct) (t : Tenant) : u.record t = s.record t := by
  rw [State.record, State.record, h]

/-- A hand-over changes its tenant's record and port alone. -/
theorem handOver_frame (p : Profile) (t : Tenant) (blamed judged : Bool) (s : State) :
    ∃ c q, (handOver p t blamed judged s).1 = (s.setRecord t c).setPort t q := by
  have same : ∃ c q, s = (s.setRecord t c).setPort t q := ⟨s.record t, s.port t, by simp⟩
  unfold handOver
  split
  · change ∃ c q, (if blamed then restartRecovery p t s else s) = _
    split
    · obtain ⟨c, h⟩ := restartRecovery_frame p t s
      exact ⟨c, s.port t, by rw [h, ← setRecord_port s t t c, setPort_self]⟩
    · exact same
  split
  · exact same
  split
  · exact charge_frame p t 8 .violation s
  split
  · exact credit_frame t .cleanCredit s
  · exact same

theorem handOver_record_ne {t u : Tenant} (h : u ≠ t) (p : Profile) (blamed judged : Bool) (s : State) :
    (handOver p t blamed judged s).1.record u = s.record u := by
  obtain ⟨c, q, frame⟩ := handOver_frame p t blamed judged s
  rw [frame, setPort_record, setRecord_record_ne _ _ _ _ h]

theorem charge_record_congr {s u : State} {t : Tenant} (h : u.record t = s.record t) (p : Profile) (n : Nat) (cause : Cause) :
    (charge p t n cause u).1.record t = (charge p t n cause s).1.record t := by
  unfold charge
  dsimp only
  rw [h]
  split
  · exact h
  · rw [record_of_conduct (foldl_issue_conduct t _ _), record_of_conduct (foldl_issue_conduct t _ _), setRecord_record,
      setRecord_record]

theorem credit_record_congr {s u : State} {t : Tenant} (h : u.record t = s.record t) (cause : Cause) :
    (credit t cause u).record t = (credit t cause s).record t := by
  unfold credit
  dsimp only
  rw [h]
  split
  · exact h
  split
  · rw [issue, issue, setPort_record, setPort_record, setRecord_record, setRecord_record]
  · rw [setRecord_record, setRecord_record]

/-- What a hand-over makes of its tenant's record depends on that record alone. -/
theorem handOver_record_congr {s u : State} {t : Tenant} (h : u.record t = s.record t) (p : Profile) (blamed judged : Bool) :
    (handOver p t blamed judged u).1.record t = (handOver p t blamed judged s).1.record t := by
  unfold handOver
  rw [h]
  split
  · cases blamed with
    | true => simp only [if_true, restartRecovery_eq, setRecord_record, h]
    | false => exact h
  split
  · exact h
  split
  · exact charge_record_congr h p 8 .violation
  split
  · exact credit_record_congr h .cleanCredit
  · exact h

/-- Of several hand-overs each changes its own tenant's record, as it would alone. -/
theorem handOverAll_record (p : Profile) (blamed judged : Tenant → Bool) {ts : List Tenant} (once : ts.Nodup) (s : State)
    (t : Tenant) : (handOverAll p blamed judged ts s).1.record t
      = if t ∈ ts then (handOver p t (blamed t) (judged t) s).1.record t else s.record t := by
  induction ts generalizing s with
  | nil => rfl
  | cons x ts ih =>
    obtain ⟨out, once⟩ := List.nodup_cons.mp once
    have first : (handOverAll p blamed judged (x :: ts) s).1
        = (handOverAll p blamed judged ts (handOver p x (blamed x) (judged x) s).1).1 := rfl
    rw [first, ih once]
    by_cases same : t = x
    · subst same
      rw [if_neg out, if_pos List.mem_cons_self]
    · have stands := handOver_record_ne same p (blamed x) (judged x) s
      simp only [List.mem_cons, same, false_or]
      rw [handOver_record_congr stands p, stands]

/-! ### The state that an evaluation leaves -/

section
variable (p : Profile) (r : Report) (rest : List Report) (s : State)

theorem purgeAll_record (ts : List Tenant) (u : State) (t : Tenant) : (purgeAll ts u).record t = u.record t := by
  induction ts generalizing u with
  | nil => rfl
  | cons x ts ih => rw [purgeAll_cons, ih, purge_record]

theorem concludeReport_record (x : State × List Tenant) (t : Tenant) : (concludeReport rest x).record t = x.1.record t :=
  purgeAll_record x.2 _ t

theorem told_conduct : (told p r s).conduct = s.conduct := by
  have logged : (recorded p r s).conduct = s.conduct := joinAll_conduct _ s
  unfold told
  split
  · rw [← foldl_notifyRecord, foldl_notifyRecord_conduct, logged]
  · exact logged

/-- Each tenant's record is what its own hand-over makes of it. -/
theorem evaluateReport_record (t : Tenant) : (evaluateReport p r rest s).record t
    = (handOver p t (blamedIn (loggedRecords p r s) t) (judgedIn p r s t) s).1.record t := by
  have once : allTenants.Nodup := by decide
  rw [evaluateReport_eq, concludeReport_record, handed, handOverAll_record p _ _ once, if_pos (mem_allTenants t)]
  exact handOver_record_congr (record_of_conduct (told_conduct p r s) t) p _ _

theorem evaluateReport_monitor : (evaluateReport p r rest s).reports = rest
    ∧ (evaluateReport p r rest s).evaluating = !rest.isEmpty ∧ (evaluateReport p r rest s).log = (recorded p r s).log
    ∧ (evaluateReport p r rest s).logSeq = (recorded p r s).logSeq := by
  have monitor := (evaluateReport_keepsQueues p r rest s).monitor
  simp only [monitorOf, Prod.mk.injEq] at monitor
  obtain ⟨_, reports, evaluating, log, logSeq, _⟩ := monitor
  exact ⟨reports, evaluating, log, logSeq⟩

/-- The evaluated state's log and sequence are those that the records left. -/
theorem recorded_of_evaluated :
    ({ s with log := (evaluateReport p r rest s).log, logSeq := (evaluateReport p r rest s).logSeq } : State) = recorded p r s := by
  obtain ⟨_, _, log, logSeq⟩ := evaluateReport_monitor p r rest s
  rw [log, logSeq, ← recorded_frame]

end

/-! ### The mode RECORD (R142, R145) -/

/-- Outside CONFINE a hand-over changes its tenant's record at most, and isolates nobody. -/
theorem handOver_unconfined {p : Profile} (mode : p.enforcement ≠ .confine) (t : Tenant) (blamed judged : Bool) (s : State) :
    ∃ c, handOver p t blamed judged s = (s.setRecord t c, false) := by
  cases trust : (s.record t).isolated with
  | true =>
    rw [handOver_isolated trust]
    split
    · rw [restartRecovery_eq]
      exact ⟨_, rfl⟩
    · exact ⟨s.record t, by rw [setRecord_self]⟩
  | false => exact ⟨s.record t, by rw [handOver_spared trust mode, setRecord_self]⟩

theorem handOverAll_unconfined {p : Profile} (mode : p.enforcement ≠ .confine) (blamed judged : Tenant → Bool)
    (ts : List Tenant) (s : State) :
    ∃ conduct, handOverAll p blamed judged ts s = ({ s with conduct := conduct }, []) := by
  induction ts generalizing s with
  | nil => exact ⟨s.conduct, rfl⟩
  | cons t ts ih =>
    obtain ⟨c, first⟩ := handOver_unconfined mode t (blamed t) (judged t) s
    obtain ⟨conduct, later⟩ := ih (s.setRecord t c)
    refine ⟨conduct, ?_⟩
    rw [handOverAll, first]
    dsimp only
    rw [later]
    rfl

/-- In RECORD nothing follows the records but what the hand-overs make of the conduct records. -/
theorem evaluateReport_record_mode {p : Profile} (mode : p.enforcement = .record) (r : Report) (rest : List Report) (s : State) :
    evaluateReport p r rest s = { s with
      log := (evaluateReport p r rest s).log, logSeq := (evaluateReport p r rest s).logSeq
      conduct := (evaluateReport p r rest s).conduct, reports := rest, evaluating := !rest.isEmpty } := by
  have silent : told p r s = recorded p r s := if_neg (by rw [mode]; decide)
  obtain ⟨conduct, frame⟩ := handOverAll_unconfined (p := p) (by rw [mode]; decide) (blamedIn (loggedRecords p r s))
    (judgedIn p r s) allTenants (told p r s)
  have shape : evaluateReport p r rest s
      = { recorded p r s with conduct := conduct, reports := rest, evaluating := !rest.isEmpty } := by
    rw [evaluateReport_eq, handed, frame, silent]
    rfl
  obtain ⟨_, _, log, logSeq⟩ := evaluateReport_monitor p r rest s
  have conduct_eq : (evaluateReport p r rest s).conduct = conduct := congrArg State.conduct shape
  rw [log, logSeq, conduct_eq, shape]
  conv_lhs => rw [recorded_frame]

/-- Outside CONFINE a record changes but for the restart of an isolated tenant's countdown (R145). -/
theorem handOver_unconfined_record {p : Profile} (mode : p.enforcement ≠ .confine) (t : Tenant) (blamed judged : Bool)
    (s : State) : (handOver p t blamed judged s).1.record t = if (s.record t).isolated = true ∧ blamed = true
      then { s.record t with recovery := (s.record t).recovery.map fun _ => p.recoveryFrames } else s.record t := by
  cases trust : (s.record t).isolated with
  | true => cases blamed <;> simp [handOver_isolated trust, restartRecovery_eq]
  | false => simp [handOver_spared trust mode]

/-! ### The rows -/

section
variable {s : State} (settled : Settled s)
include settled

theorem exec_reportEvaluationBegin_begins (waiting : s.reports ≠ []) (idle : s.evaluating = false) :
    exec .reportEvaluationBegin s = .next { s with evaluating := true } := by
  rw [exec, execReportEvaluationBegin, settleDue_settled s settled]
  exact if_pos ⟨waiting, idle⟩

theorem exec_reportEvaluationBegin_ignored (h : s.reports = [] ∨ s.evaluating = true) :
    exec .reportEvaluationBegin s = .next s := by
  rw [exec, execReportEvaluationBegin, settleDue_settled s settled]
  refine if_neg fun ⟨waiting, idle⟩ => ?_
  rcases h with empty | busy
  · exact waiting empty
  · cases busy.symm.trans idle

theorem exec_reportEvaluation_ignored (idle : s.evaluating = false) : exec .reportEvaluation s = .next s := by
  rw [exec, execReportEvaluation, settleDue_settled s settled]
  simp only [idle]

theorem exec_reportEvaluation_completes {p : Profile} {r : Report} {rest : List Report} (running : s.device = .running p)
    (busy : s.evaluating = true) (head : s.reports = r :: rest) :
    exec .reportEvaluation s = .next (evaluateReport p r rest s) := by
  rw [exec, execReportEvaluation, settleDue_settled s settled]
  simp only [busy, profile?_of_running running, head]

end

/-! ### The statements -/

/-- Settles O47: the records by `recordsOf_logged`, the log by `joinAll_log`, and in RECORD nothing more than the hand-overs. -/
theorem reportsAreEvaluated : Obligations.ReportsAreEvaluated := by
  refine ⟨fun s settled => ⟨exec_reportEvaluationBegin_begins settled, exec_reportEvaluationBegin_ignored settled,
    exec_reportEvaluation_ignored settled⟩, fun s p r rest settled running busy head => ?_⟩
  obtain ⟨reports, evaluating, log, logSeq⟩ := evaluateReport_monitor p r rest s
  have length := loggedRecords_length p r s
  refine ⟨loggedRecords p r s, evaluateReport p r rest s, exec_reportEvaluation_completes settled running busy head,
    recordsOf_logged p r s, reports, evaluating, ?_, fun within => ?_, fun mode => ⟨evaluateReport_record_mode mode r rest s,
      fun t => ?_⟩⟩
  · rw [logSeq, length]
    exact joinAll_logSeq _ s
  · rw [log, length]
    exact joinAll_log _ within
  · rw [evaluateReport_record, handOver_unconfined_record (by rw [mode]; decide)]
    exact if_congr (and_congr_right' (blamedIn_iff _ t)) rfl rfl

/-- Settles O48: each charge, credit and hand-over by its tests, and the evaluation taken apart. -/
theorem chargesAndCredits : Obligations.ChargesAndCredits := by
  refine ⟨?_, fun p t blamed judged s => ⟨fun isolated => ⟨?_, ?_⟩, fun trusted => ⟨handOver_spared trusted,
      fun mode => ⟨?_, ?_, ?_⟩⟩⟩,
    fun v s => ⟨fun nobody => ?_, fun t party => ?_⟩, fun s p r rest settled running busy head => ?_⟩
  · intro s t p cause c
    exact ⟨fun isolated => ⟨charge_isolated isolated, credit_isolated isolated⟩, fun trusted ok =>
      ⟨fun n few => ⟨charge_counts trusted, fun reached below fresh => charge_warns trusted reached below fresh few,
        fun reached => charge_isolating trusted ok reached few⟩,
      credit_zero, fun positive => ⟨credit_clears trusted, credit_counts trusted positive⟩⟩⟩
  · rintro rfl
    rw [handOver_isolated isolated, if_pos rfl, restartRecovery_eq]
  · rintro rfl
    rw [handOver_isolated isolated, if_neg nofun]
  · rintro rfl
    rw [handOver_confined trusted mode, if_pos rfl]
  · rintro rfl rfl
    rw [handOver_confined trusted mode, if_neg nofun, if_pos rfl]
  · rintro rfl rfl
    rw [handOver_confined trusted mode, if_neg nofun, if_neg nofun]
  · simp only [notifyRecord, nobody]
  · simp only [notifyRecord, party]
  · refine ⟨loggedRecords p r s, blamedIn (loggedRecords p r s), judgedIn p r s, evaluateReport p r rest s,
      exec_reportEvaluation_completes settled running busy head, recordsOf_logged p r s, blamedIn_iff _, judgedIn_iff p r s, ?_,
      evaluateReport_record p r rest s⟩
    intro joined notified after
    have logged : joined = recorded p r s := recorded_of_evaluated p r rest s
    have issued : notified = told p r s := by
      unfold notified told
      rw [logged]
    have made : after = handed p r s := by
      unfold after handed
      rw [issued]
    clear_value after
    rw [made]
    exact evaluateReport_eq p r rest s

end Sys2Proof.Proofs
end

section
/-! PROOFS. What charges, credits, restarts, counts and recoveries make of a conduct record, and that the shared operations, the
expiries and the frame event keep every record as R148 bounds it: one lemma for each, on the relation `KeepsConduct`. -/

namespace Sys2Proof.Proofs

open Machine Safety Laws

/-! ### One conduct record (R148, R152, R155) -/

/-- A conduct record as R148 bounds it, its countdown present while isolated but in LATCHED. -/
structure RecordFits (p : Profile) (c : ConductRecord) : Prop extends RecordOk c where
  countdown : c.isolated = true → (c.recovery.isSome = true ↔ p.recoveryMode ≠ .latched)

theorem resetConduct_fits (p : Profile) : RecordFits p resetConduct := ⟨⟨by decide, by decide, by decide, by decide⟩, nofun⟩

/-- A record below the isolation threshold is one of a tenant that is not isolated, without a countdown. -/
theorem recordFits_trusted {p : Profile} {c : ConductRecord} (few : c.counter < 128) (warned : 96 ≤ c.counter → c.warned = true)
    (trusted : c.isolated = false) (recovery : c.recovery = none) : RecordFits p c where
  bounded := by omega
  warned := warned
  isolated := by
    rw [trusted]
    exact ⟨nofun, fun high => absurd few high.not_gt⟩
  recovery _ := recovery
  countdown isolated := by
    rw [trusted] at isolated
    cases isolated

/-- A countdown that is counted or loaded again neither appears nor goes (R155). -/
theorem RecordFits.recounted {p : Profile} {c : ConductRecord} (fits : RecordFits p c) (f : Nat → Nat) :
    RecordFits p { c with recovery := c.recovery.map f } where
  bounded := fits.bounded
  warned := fits.warned
  isolated := fits.isolated
  recovery trusted := by rw [fits.recovery trusted, Option.map_none]
  countdown isolated := by
    rw [Option.isSome_map]
    exact fits.countdown isolated

/-- An isolation loads the countdown but in LATCHED (R152). -/
theorem recoveryStart_isSome (p : Profile) : p.recoveryStart.isSome = true ↔ p.recoveryMode ≠ .latched := by
  unfold Profile.recoveryStart
  split <;> simpa using ‹_›

section
variable {s : State} {t : Tenant} {p : Profile} {cause : Cause}

/-- A charge of 8 or less warns at 96 and isolates at 128, and takes a counter below 128 to 135 at most (R149, R151, R152). -/
theorem charge_fits {n : Nat} (few : n ≤ 8) (fits : RecordFits p (s.record t)) :
    RecordFits p ((charge p t n cause s).1.record t) := by
  cases trust : (s.record t).isolated with
  | true =>
    rw [charge_isolated trust]
    exact fits
  | false =>
    have below := counter_below trust fits.toRecordOk
    have absent := fits.recovery trust
    rcases Nat.lt_or_ge ((s.record t).counter + n) 128 with low | reached
    · by_cases silent : (s.record t).counter + n < 96 ∨ (s.record t).warned = true
      · rw [charge_counts trust (silent.imp_right fun warned => ⟨warned, low⟩), setRecord_record]
        exact recordFits_trusted low (fun high => silent.resolve_left (Nat.not_lt.mpr high)) trust absent
      · rw [not_or, Nat.not_lt, Bool.not_eq_true] at silent
        obtain ⟨high, fresh⟩ := silent
        have unwarned : (s.record t).counter < 96 := by
          refine Nat.not_le.mp fun above => ?_
          cases (fits.warned above).symm.trans fresh
        rw [charge_warns trust high unwarned fresh few, issue, setPort_record, setRecord_record]
        exact recordFits_trusted low (fun _ => rfl) trust absent
    · rw [charge_isolating trust fits.toRecordOk reached few, issue, setPort_record, setRecord_record]
      have bounded : (s.record t).counter + n ≤ 135 := by omega
      exact ⟨⟨bounded, fun _ => rfl, ⟨fun _ => reached, fun _ => rfl⟩, nofun⟩, fun _ => recoveryStart_isSome p⟩

/-- A credit withdraws a warning only below 64 (R149, R151). -/
theorem credit_fits (fits : RecordFits p (s.record t)) : RecordFits p ((credit t cause s).record t) := by
  cases trust : (s.record t).isolated with
  | true =>
    rw [credit_isolated trust]
    exact fits
  | false =>
    have below := counter_below trust fits.toRecordOk
    have absent := fits.recovery trust
    rcases Nat.eq_zero_or_pos (s.record t).counter with zero | positive
    · rw [credit_zero zero]
      exact fits
    by_cases clears : (s.record t).counter = 64 ∧ (s.record t).warned = true
    · rw [credit_clears trust clears.1 clears.2, issue, setPort_record, setRecord_record]
      exact recordFits_trusted (show 63 < 128 by decide) (fun high => absurd high (show ¬ 96 ≤ 63 by decide)) trust absent
    · rw [not_and_or, Bool.not_eq_true] at clears
      rw [credit_counts trust positive clears, setRecord_record]
      exact recordFits_trusted (tsub_le_self.trans_lt below) (fun high => fits.warned (high.trans tsub_le_self)) trust absent

/-- A hand-over is a restart, a charge of 8, a credit or nothing (R144, R145, R155). -/
theorem handOver_fits {blamed judged : Bool} (fits : RecordFits p (s.record t)) :
    RecordFits p ((handOver p t blamed judged s).1.record t) := by
  unfold handOver
  split
  · dsimp only
    split
    · rw [restartRecovery_eq, setRecord_record]
      exact fits.recounted _
    · exact fits
  split
  · exact fits
  split
  · exact charge_fits le_rfl fits
  split
  · exact credit_fits fits
  · exact fits

end

/-! ### The relation -/

/-- While RUNNING the invariant says of each record that it fits the profile. -/
theorem conductOk_running {s : State} {p : Profile} (running : s.device = .running p) :
    ConductOk s ↔ ∀ t, RecordFits p (s.record t) := by
  refine ⟨fun ok t => ⟨ok.records t, ok.countdown p running t⟩, fun fits => ⟨fun t => (fits t).toRecordOk, fun q hq t => ?_, ?_⟩⟩
  · cases running.symm.trans hq
    exact (fits t).countdown
  · rw [profile?_of_running running]
    nofun

/-- Outside RUNNING it says that each is clean (R160). -/
theorem conductOk_stopped {s : State} (stopped : s.profile? = none) : ConductOk s ↔ ∀ t, s.record t = resetConduct := by
  refine ⟨fun ok => ok.clean stopped, fun clean => ⟨fun t => ?_, fun p running => ?_, fun _ => clean⟩⟩
  · rw [clean t, ← reset_record t]
    exact conductOk_reset.records t
  · cases (profile?_of_running running).symm.trans stopped

/-- The device stands, and the conduct records stay as they should be. -/
structure KeepsConduct (s u : State) : Prop where
  device    : u.device = s.device
  conductOk : ConductOk s → ConductOk u

@[refl] theorem KeepsConduct.refl (s : State) : KeepsConduct s s := ⟨rfl, id⟩

theorem KeepsConduct.trans {s u v : State} (h : KeepsConduct s u) (g : KeepsConduct u v) : KeepsConduct s v :=
  ⟨g.device.trans h.device, g.conductOk ∘ h.conductOk⟩

theorem foldl_keepsConduct {α : Type} (f : State → α → State) (h : ∀ s x, KeepsConduct s (f s x)) (xs : List α) (s : State) :
    KeepsConduct s (xs.foldl f s) := by
  induction xs generalizing s with
  | nil => rfl
  | cons x xs ih => exact (h s x).trans (ih (f s x))

/-- An update that leaves device and conduct records: by `rfl` for each record update of the model. -/
theorem keepsConduct_of_same {s u : State} (device : u.device = s.device) (conduct : u.conduct = s.conduct) :
    KeepsConduct s u := by
  refine ⟨device, fun ok => ⟨fun t => ?_, fun p running t => ?_, fun stopped t => ?_⟩⟩ <;> rw [record_of_conduct conduct]
  · exact ok.records t
  · exact ok.countdown p (device ▸ running) t
  · exact ok.clean (profile?_eq_of_device device ▸ stopped) t

/-- An update of one tenant's record and port, whose record fits after it when it did before. -/
theorem keepsConduct_of_own {s u : State} {p : Profile} {t : Tenant} (running : s.device = .running p)
    (frame : ∃ c q, u = (s.setRecord t c).setPort t q) (own : RecordFits p (s.record t) → RecordFits p (u.record t)) :
    KeepsConduct s u := by
  obtain ⟨c, q, rfl⟩ := frame
  have running' : ((s.setRecord t c).setPort t q).device = .running p := running
  refine ⟨rfl, fun ok => (conductOk_running running').mpr fun x => ?_⟩
  have fits := (conductOk_running running).mp ok
  by_cases same : x = t
  · exact same ▸ own (fits t)
  · rw [setPort_record, setRecord_record_ne _ _ _ _ same]
    exact fits x

/-! ### Entries, notices and the purge -/

theorem mapLives_keepsConduct (f : EntryIx → Life → Option Life) (s : State) : KeepsConduct s (mapLives f s) := by
  obtain ⟨_, _, _, _, h⟩ := mapLives_frame f s
  rw [h]
  exact keepsConduct_of_same rfl rfl

theorem issue_keepsConduct (t : Tenant) (body : NoticeBody) (s : State) : KeepsConduct s (issue t body s) :=
  keepsConduct_of_same rfl rfl

theorem issueAll_keepsConduct (ts : List Tenant) (body : NoticeBody) (s : State) : KeepsConduct s (issueAll ts body s) :=
  foldl_keepsConduct _ (fun s t => issue_keepsConduct t body s) ts s

theorem withdrawPart_keepsConduct (t : Tenant) (s : State) : KeepsConduct s (withdrawPart t s) :=
  keepsConduct_of_same (withdrawPart_eases t s).device (withdrawPart_conduct t s)

theorem proceed_keepsConduct (s : State) : KeepsConduct s (proceed s) :=
  keepsConduct_of_same (proceed_eases s).device (proceed_conduct s)

theorem purge_keepsConduct (t : Tenant) (s : State) : KeepsConduct s (purge t s) :=
  keepsConduct_of_same (purge_eases t s).device (purge_conduct t s)

theorem purgeAll_keepsConduct (ts : List Tenant) (s : State) : KeepsConduct s (purgeAll ts s) :=
  foldl_keepsConduct _ (fun s t => purge_keepsConduct t s) ts s

/-! ### Charges, credits and recoveries -/

section
variable {s : State} {p : Profile} (running : s.device = .running p)
include running

theorem charge_keepsConduct (t : Tenant) {n : Nat} (few : n ≤ 8) (cause : Cause) : KeepsConduct s (charge p t n cause s).1 :=
  keepsConduct_of_own running (charge_frame p t n cause s) (charge_fits few)

theorem credit_keepsConduct (t : Tenant) (cause : Cause) : KeepsConduct s (credit t cause s) :=
  keepsConduct_of_own running (credit_frame t cause s) credit_fits

theorem takeRecovery_keepsConduct (t : Tenant) (how : RecoveryHow) : KeepsConduct s (takeRecovery p t how s) := by
  refine keepsConduct_of_own running ⟨_, _, takeRecovery_eq p t how s⟩ fun _ => ?_
  rw [takeRecovery_eq, setPort_record, setRecord_record]
  exact resetConduct_fits p

/-- Each tenant's record is what its own hand-over makes of it. -/
theorem evaluateReport_keepsConduct (r : Report) (rest : List Report) : KeepsConduct s (evaluateReport p r rest s) := by
  have device := (evaluateReport_eases p r rest s).device
  refine ⟨device, fun ok => (conductOk_running (device.trans running)).mpr fun t => ?_⟩
  rw [evaluateReport_record]
  exact handOver_fits ((conductOk_running running).mp ok t)

end

theorem chargeAll_keepsConduct {s : State} {p : Profile} (running : s.device = .running p) {n : Nat} (few : n ≤ 8) (cause : Cause)
    (ts : List Tenant) : KeepsConduct s (chargeAll p n cause ts s).1 := by
  induction ts generalizing s with
  | nil => rfl
  | cons t ts ih =>
    have first := charge_keepsConduct running t few cause
    exact first.trans (ih (first.device.trans running))

theorem timeOut_keepsConduct {s : State} {p : Profile} (running : s.device = .running p) : KeepsConduct s (timeOut p s) := by
  have withdrawn : KeepsConduct s (s.expected.foldl (fun s t => withdrawPart t s) s) :=
    foldl_keepsConduct _ (fun s t => withdrawPart_keepsConduct t s) s.expected s
  unfold timeOut
  dsimp only
  rw [charge_foldl]
  exact withdrawn.trans ((chargeAll_keepsConduct (withdrawn.device.trans running) le_rfl .timeout s.expected).trans
    ((proceed_keepsConduct _).trans (purgeAll_keepsConduct _ _)))

/-! ### The cycle and the plan link -/

theorem endSettle_keepsConduct (s : State) : KeepsConduct s (endSettle s) := by
  have freed := mapLives_keepsConduct (fun _ l => cooledLife l) s
  rw [endSettle_eq]
  generalize mapLives (fun _ l => cooledLife l) s = u at freed ⊢
  exact freed.trans (keepsConduct_of_same rfl rfl)

theorem abandon_keepsConduct (epoch : BitVec 32) (s : State) : KeepsConduct s (abandon epoch s) := by
  have returned : KeepsConduct s (batchReturned s) := by
    obtain ⟨_, _, _, _, frame⟩ := batchReturned_frame s
    rw [frame]
    exact keepsConduct_of_same rfl rfl
  have told : KeepsConduct s (abandonedTold epoch s) := returned.trans (issueAll_keepsConduct _ _ _)
  rw [abandon_eq]
  split
  · exact told.trans (keepsConduct_of_same rfl rfl)
  · exact told

theorem imageFailed_keepsConduct (f : Flight) (s : State) : KeepsConduct s (imageFailed f s) := by
  unfold imageFailed
  split
  · exact (show KeepsConduct s (giveUp s) from keepsConduct_of_same rfl rfl).trans (abandon_keepsConduct _ _)
  · exact keepsConduct_of_same rfl rfl

theorem cancelled_keepsConduct (f : Flight) (s : State) : KeepsConduct s (imageFailed f (handCancel f s)) :=
  (show KeepsConduct s (handCancel f s) from keepsConduct_of_same rfl rfl).trans (imageFailed_keepsConduct f _)

theorem freeze_keepsConduct (p : Profile) (s : State) : KeepsConduct s (freeze p s) := by
  unfold freeze
  split
  · extract_lets s1 called s2 s3
    have flagged : KeepsConduct s { s with trigger := false, batch := s.batch + 1 } := keepsConduct_of_same rfl rfl
    have frozen : KeepsConduct s s1 := flagged.trans (mapLives_keepsConduct _ _)
    clear_value s1
    have awaited : KeepsConduct s1 s2 := keepsConduct_of_same rfl rfl
    have told : KeepsConduct s2 s3 := foldl_keepsConduct _ (fun s t => issue_keepsConduct t _ s) called s2
    clear_value s3
    refine frozen.trans (awaited.trans (told.trans ?_))
    split <;> exact keepsConduct_of_same rfl rfl
  · exact keepsConduct_of_same rfl rfl

theorem commit_keepsConduct (p : Profile) (f : Flight) (s : State) : KeepsConduct s (commit p f s) := by
  have moved : KeepsConduct s (switched p f s) := by
    obtain ⟨_, _, _, _, frame⟩ := switched_frame p f s
    rw [frame]
    exact keepsConduct_of_same rfl rfl
  have told : KeepsConduct s (committedTold p f s) := moved.trans (issueAll_keepsConduct _ _ _)
  rw [commit_eq]
  split
  · exact told.trans (keepsConduct_of_same rfl rfl)
  · exact told

theorem cycleTest_keepsConduct (p : Profile) (cycle : CycleState) (holdoff : Bool) (s : State) :
    KeepsConduct s (cycleTest p cycle holdoff s) := by
  unfold cycleTest
  split
  · rfl
  split
  · split
    · exact freeze_keepsConduct p s
    · rfl
  · split
    · exact commit_keepsConduct p _ s
    · rfl
  · split
    · exact keepsConduct_of_same rfl rfl
    · rfl
  · rfl
  · rfl

/-! ### The expiries and the frame event -/

theorem expire_keepsConduct {s : State} {p : Profile} (running : s.device = .running p) (it : FrameItem) :
    KeepsConduct s (expire p it s) := by
  cases it with
  | cadence =>
    simp only [expire, cadenceOut]
    split
    · exact keepsConduct_of_same rfl rfl
    · rfl
  | hold e =>
    simp only [expire, holdOut]
    split
    · exact keepsConduct_of_same rfl rfl
    · rfl
  | lapse e =>
    simp only [expire, waitOut]
    split
    · exact keepsConduct_of_same rfl rfl
    · rfl
  | pace t => exact keepsConduct_of_same rfl rfl
  | recovery t =>
    simp only [expire, recoveryOut]
    split
    · exact takeRecovery_keepsConduct running t .auto
    · rfl
  | prepareTimeout =>
    simp only [expire, prepareOut]
    split
    · exact timeOut_keepsConduct running
    · rfl
  | settleEnd =>
    simp only [expire, settleOut]
    split
    · exact endSettle_keepsConduct s
    · rfl
  | ackWait =>
    simp only [expire, ackWaitOut]
    split
    · split
      · exact cancelled_keepsConduct _ s
      · rfl
    · rfl

theorem takeExpiry_keepsConduct (it : FrameItem) (s : State) : KeepsConduct s (takeExpiry it s) := by
  unfold takeExpiry
  split
  · next running =>
    split
    · have struck : KeepsConduct s { s with due := s.due.erase it } := keepsConduct_of_same rfl rfl
      exact struck.trans (expire_keepsConduct (struck.device.trans running) it)
    · rfl
  · rfl

theorem foldl_takeExpiry_keepsConduct (its : List FrameItem) (s : State) :
    KeepsConduct s (its.foldl (fun s it => takeExpiry it s) s) :=
  foldl_keepsConduct _ (fun s it => takeExpiry_keepsConduct it s) its s

theorem settleDue_keepsConduct (s : State) : KeepsConduct s (settleDue s) := foldl_takeExpiry_keepsConduct s.due s

/-- The counts of a frame event move countdowns alone (R155). -/
theorem countFrame_keepsConduct (p : Profile) (holdoff : Bool) (s : State) : KeepsConduct s (countFrame p holdoff s) := by
  have device : (countFrame p holdoff s).device = s.device := (countFrame_eases p holdoff s).device
  refine ⟨device, fun ok => ?_⟩
  rcases running_or_stopped s with ⟨q, running⟩ | stopped
  · refine (conductOk_running (device.trans running)).mpr fun t => ?_
    rw [countFrame_record]
    exact ((conductOk_running running).mp ok t).recounted _
  · refine (conductOk_stopped ((profile?_eq_of_device device).trans stopped)).mpr fun t => ?_
    rw [countFrame_record, ok.clean stopped]
    rfl

theorem frameEvent_keepsConduct (p : Profile) (holdoff : Bool) (o : FrameOrder) (s : State) :
    KeepsConduct s (frameEvent p holdoff o s) := by
  unfold frameEvent
  extract_lets counted s1 s2 now s3
  have counts : KeepsConduct s counted := countFrame_keepsConduct p holdoff s
  clear_value counted
  have due : KeepsConduct counted s1 := keepsConduct_of_same rfl rfl
  have early : KeepsConduct s1 s2 := foldl_takeExpiry_keepsConduct o.early s1
  have late : KeepsConduct s2 s3 := foldl_takeExpiry_keepsConduct now s2
  exact counts.trans (due.trans (early.trans (late.trans (cycleTest_keepsConduct p s.cycle holdoff s3))))

end Sys2Proof.Proofs
end

section
/-! PROOFS. Every command keeps the conduct records: the evaluations of the Plan Engine, the tenant ports, the plan link, the
resets and the loads, on the relation `KeepsConduct`. -/

namespace Sys2Proof.Proofs

open Machine Safety Laws

/-! ### The evaluations of the Plan Engine -/

theorem evalPlace_keepsConduct (p : Profile) (t : Tenant) (f : PlaceFields) (s : State) :
    KeepsConduct s (evalPlace p t f s).1 := by
  have ends := evalPlace_ends p t f s
  generalize (evalPlace p t f s).1 = u at ends
  cases ends with
  | unmoved => rfl
  | bumped => exact keepsConduct_of_same rfl rfl
  | granted => exact keepsConduct_of_same rfl rfl
  | waiting => exact keepsConduct_of_same rfl rfl

theorem releaseFromBatch_keepsConduct (t : Tenant) (e : EntryIx) (s : State) : KeepsConduct s (releaseFromBatch t e s) := by
  unfold releaseFromBatch
  extract_lets s1
  have freed : KeepsConduct s s1 := keepsConduct_of_same rfl rfl
  have left : KeepsConduct s1 (leaveExpected t s1) := keepsConduct_of_same rfl rfl
  split
  · exact freed.trans (left.trans (proceed_keepsConduct _))
  · exact freed

theorem evalRelease_keepsConduct (p : Profile) (t : Tenant) (h : Handle) (s : State) :
    KeepsConduct s (evalRelease p t h s).1 := by
  unfold evalRelease
  split
  · rfl
  · split
    case h_3 =>
      split
      · exact releaseFromBatch_keepsConduct t _ s
      · exact keepsConduct_of_same rfl rfl
    case h_2 | h_4 => exact keepsConduct_of_same rfl rfl
    all_goals rfl

theorem evalWithdraw_keepsConduct (p : Profile) (t : Tenant) (h : Handle) (s : State) :
    KeepsConduct s (evalWithdraw p t h s).1 := by
  unfold evalWithdraw
  split
  · rfl
  · split
    case h_1 => exact keepsConduct_of_same rfl rfl
    all_goals rfl

theorem evalQuerySpan_keepsConduct (p : Profile) (t : Tenant) (h : Handle) (s : State) :
    KeepsConduct s (evalQuerySpan p t h s).1 := by
  unfold evalQuerySpan
  split
  · rfl
  · exact keepsConduct_of_same rfl rfl

theorem evalQueryMap_keepsConduct (p : Profile) (t : Tenant) (x : BitVec 16 × Byte) (s : State) :
    KeepsConduct s (evalQueryMap p t x s).1 := by
  unfold evalQueryMap
  dsimp only
  split <;> rfl

section
variable {p : Profile} {s : State} (running : s.device = .running p) (t : Tenant) (batch : BitVec 16)
include running

theorem evalReady_keepsConduct : KeepsConduct s (evalReady p t batch s).1 := by
  unfold evalReady
  split
  · rfl
  · have left : KeepsConduct s (leaveExpected t s) := keepsConduct_of_same rfl rfl
    exact left.trans ((credit_keepsConduct (left.device.trans running) t .readyCredit).trans (proceed_keepsConduct _))

theorem evalRefuse_keepsConduct : KeepsConduct s (evalRefuse p t batch s).1 := by
  unfold evalRefuse
  split
  · rfl
  · have withdrawn := withdrawPart_keepsConduct t s
    have charged := charge_keepsConduct (withdrawn.device.trans running) t (n := 2) (by decide) .refusal
    have proceeded := withdrawn.trans (charged.trans (proceed_keepsConduct _))
    dsimp only
    split
    · exact proceeded.trans (purge_keepsConduct t _)
    · exact proceeded

end

theorem completeFor_keepsConduct {α : Type} {select : EngineRequest → Option α}
    {eval : Profile → Tenant → α → State → State × Answer}
    (h : ∀ {p s}, s.device = .running p → ∀ t x, KeepsConduct s (eval p t x s).1) (s : State) :
    KeepsConduct s (completeFor select eval s) := by
  have answered (t : Tenant) (k : FrameKind) (x : State × Answer) :
      KeepsConduct x.1 { respond t k x.2 x.1 with inHand := none } := keepsConduct_of_same rfl rfl
  unfold completeFor
  split
  · next t p _ hp =>
    split
    · split
      · refine KeepsConduct.trans ?_ (answered _ _ _)
        split
        · rfl
        · exact h (device_of_profile? hp) _ _
      · rfl
    · rfl
  · rfl

/-! ### The arbiter and the sweep step -/

theorem grantEngine_keepsConduct (s : State) : KeepsConduct s (grantEngine s) := by
  unfold grantEngine
  split
  · split
    · exact keepsConduct_of_same rfl rfl
    · rfl
  · rfl

theorem stepOn_keepsConduct (p : Profile) (e : EntryIx) (s : State) : KeepsConduct s (stepOn p e s) := by
  unfold stepOn
  split
  · split
    · exact keepsConduct_of_same rfl rfl
    split <;> exact keepsConduct_of_same rfl rfl
  all_goals exact keepsConduct_of_same rfl rfl

theorem sweepStep_keepsConduct (s : State) : KeepsConduct s (sweepStep s) := by
  unfold sweepStep
  split
  · split
    · exact (stepOn_keepsConduct _ _ s).trans (keepsConduct_of_same rfl rfl)
    · exact keepsConduct_of_same rfl rfl
    · exact keepsConduct_of_same rfl rfl
  · rfl

/-! ### The tenant ports -/

theorem setPort_keepsConduct (t : Tenant) (q : Port) (s : State) : KeepsConduct s (s.setPort t q) := keepsConduct_of_same rfl rfl

theorem takeNow_keepsConduct {act : State → State × Answer} (h : ∀ s, KeepsConduct s (act s).1) (t : Tenant) (k : FrameKind)
    (s : State) : KeepsConduct s (takeNow t k act s) := by
  unfold takeNow
  split
  · rfl
  extract_lets s1 q s2
  split
  · exact keepsConduct_of_same rfl rfl
  have emptied : KeepsConduct s s2 := keepsConduct_of_same rfl rfl
  have acted : KeepsConduct s2 (match requestCheck t k s2 with
      | some c => (s2, refusal c)
      | none => act s2).1 := by
    split
    · rfl
    · exact h s2
  exact emptied.trans (acted.trans (setPort_keepsConduct _ _ _))

theorem withdrawal_keepsConduct (t : Tenant) (m : PortMode) (s : State) : KeepsConduct s (withdrawal t m s) :=
  (setPort_keepsConduct t _ s).trans (purge_keepsConduct t _)

theorem actMode_keepsConduct (t : Tenant) (target : Byte) (s : State) : KeepsConduct s (actMode t target s).1 := by
  unfold actMode
  split
  · rfl
  split
  case h_2 =>
    split
    · exact setPort_keepsConduct _ _ _
    · rfl
  case h_5 | h_7 | h_9 => exact setPort_keepsConduct _ _ _
  case h_11 => exact keepsConduct_of_same rfl rfl
  case h_13 | h_14 | h_15 | h_16 => exact withdrawal_keepsConduct _ _ _
  all_goals rfl

theorem actTrigger_keepsConduct (t : Tenant) (s : State) : KeepsConduct s (actTrigger t s).1 := by
  unfold actTrigger
  split
  · split
    · exact keepsConduct_of_same rfl rfl
    · rfl
  · rfl

theorem actRecover_keepsConduct (t : Tenant) (s : State) : KeepsConduct s (actRecover t s).1 := by
  unfold actRecover
  split
  · rfl
  next hp =>
  dsimp only
  split
  · rfl
  split
  · rfl
  · rfl
  split
  · exact takeRecovery_keepsConduct (device_of_profile? hp) t .request
  · rfl

theorem actReadNotice_keepsConduct (t : Tenant) (s : State) : KeepsConduct s (actReadNotice t s).1 := by
  unfold actReadNotice
  split
  · rfl
  · exact setPort_keepsConduct _ _ _

/-! ### The plan link and the Spectrum Monitor -/

theorem endImageSend_keepsConduct (s : State) : KeepsConduct s (endImageSend s) := by
  unfold endImageSend
  split
  · exact keepsConduct_of_same rfl rfl
  · rfl

theorem handWaiting_keepsConduct (s : State) : KeepsConduct s (handWaiting s) := by
  unfold handWaiting
  split
  · exact keepsConduct_of_same rfl rfl
  · rfl

theorem endFrameSend_keepsConduct (s : State) : KeepsConduct s (endFrameSend s) := by
  have sent (rest : List OutFrame) (bytes : List Byte) : KeepsConduct s { s with transmit := rest, pltx := bytes } :=
    keepsConduct_of_same rfl rfl
  unfold endFrameSend
  split
  · exact (sent _ _).trans (handWaiting_keepsConduct _)
  · exact (sent _ _).trans (handWaiting_keepsConduct _)
  · rfl

theorem takeAck_keepsConduct (epoch : BitVec 32) (send : Byte) (s : State) : KeepsConduct s (takeAck epoch send s) := by
  unfold takeAck
  split
  · split
    · exact keepsConduct_of_same rfl rfl
    · rfl
  · rfl

theorem takeNak_keepsConduct (epoch : BitVec 32) (send : Byte) (s : State) : KeepsConduct s (takeNak epoch send s) := by
  have refused (f : Flight) : KeepsConduct s (if answers epoch send f then refuseImage f s else s) := by
    split
    · unfold refuseImage
      split
      · exact imageFailed_keepsConduct f s
      · exact cancelled_keepsConduct f s
    · rfl
  unfold takeNak
  split
  · exact refused _
  · exact refused _
  · rfl

theorem arriveReport_keepsConduct (bytes : List Byte) (strayBits : Bool) (s : State) :
    KeepsConduct s (arriveReport bytes strayBits s) := by
  unfold arriveReport
  dsimp only
  split
  · split <;> exact keepsConduct_of_same rfl rfl
  · exact keepsConduct_of_same rfl rfl

/-! ### Rows -/

/-- The command ends in a next state, whose conduct records are as they should be when those of `s` are. -/
def EndsOrderly (s : State) (o : Host.Outcome State Fault Refusal) : Prop := ∃ u, o = .next u ∧ (ConductOk s → ConductOk u)

theorem endsOrderly_next {s u : State} (h : KeepsConduct s u) : EndsOrderly s (.next u) := ⟨u, rfl, h.conductOk⟩

/-- A command that first takes what the last frame event left due. -/
theorem EndsOrderly.of_settleDue {s : State} {o : Host.Outcome State Fault Refusal} (h : EndsOrderly (settleDue s) o) :
    EndsOrderly s o := by
  obtain ⟨u, rfl, hu⟩ := h
  exact ⟨u, rfl, hu ∘ (settleDue_keepsConduct s).conductOk⟩

theorem endsOrderly_kept {f : State → State} (h : ∀ s, KeepsConduct s (f s)) (s : State) :
    EndsOrderly s (.next (f (settleDue s))) := .of_settleDue (endsOrderly_next (h _))

theorem requestAccepted_endsOrderly (t : Tenant) (r : EngineRequest) (s : State) : EndsOrderly s (execRequestAccepted t r s) := by
  refine .of_settleDue ?_
  unfold execRequestAccepted
  generalize settleDue s = u
  dsimp only
  split
  · exact endsOrderly_next (.refl u)
  split
  · exact endsOrderly_next (keepsConduct_of_same rfl rfl)
  split
  · exact endsOrderly_next (keepsConduct_of_same rfl rfl)
  · exact endsOrderly_next (keepsConduct_of_same rfl rfl)

theorem malformedFrame_endsOrderly (t : Tenant) (bytes : List Byte) (s : State) :
    EndsOrderly s (execMalformedFrame t bytes s) := by
  refine .of_settleDue ?_
  unfold execMalformedFrame
  dsimp only
  split
  · exact endsOrderly_next (.refl _)
  · exact endsOrderly_next (keepsConduct_of_same rfl rfl)

theorem chipSelect_endsOrderly (t : Tenant) (s : State) : EndsOrderly s (execChipSelectAsserted t s) := by
  refine .of_settleDue ?_
  unfold execChipSelectAsserted
  dsimp only
  split
  · exact endsOrderly_next (.refl _)
  · exact endsOrderly_next (setPort_keepsConduct _ _ _)

theorem fetch_endsOrderly (t : Tenant) (count : Nat) (s : State) : EndsOrderly s (execFetch t count s) := by
  refine .of_settleDue ?_
  unfold execFetch
  dsimp only
  split
  · exact endsOrderly_next (.refl _)
  · exact endsOrderly_next (setPort_keepsConduct _ _ _)

theorem portReset_endsOrderly (t : Tenant) (s : State) : EndsOrderly s (execPortReset t s) := by
  refine .of_settleDue ?_
  unfold execPortReset
  extract_lets u s1 s2 q s3
  have offline : KeepsConduct u s1 := setPort_keepsConduct _ _ _
  have purged : KeepsConduct s1 s2 := by
    unfold s2
    split
    · exact purge_keepsConduct t s1
    · rfl
  have cleared : KeepsConduct u s3 := offline.trans (purged.trans (setPort_keepsConduct _ _ _))
  clear_value s3
  refine endsOrderly_next (cleared.trans ?_)
  split
  · exact keepsConduct_of_same rfl rfl
  · rfl

theorem portResetRelease_endsOrderly (t : Tenant) (s : State) : EndsOrderly s (execPortResetRelease t s) := by
  refine .of_settleDue ?_
  unfold execPortResetRelease
  dsimp only
  split
  · exact endsOrderly_next (setPort_keepsConduct _ _ _)
  · exact endsOrderly_next (.refl _)

theorem reportEvaluationBegin_endsOrderly (s : State) : EndsOrderly s (execReportEvaluationBegin s) := by
  refine .of_settleDue ?_
  unfold execReportEvaluationBegin
  dsimp only
  split
  · exact endsOrderly_next (keepsConduct_of_same rfl rfl)
  · exact endsOrderly_next (.refl _)

theorem reportEvaluation_endsOrderly (s : State) : EndsOrderly s (execReportEvaluation s) := by
  refine .of_settleDue ?_
  unfold execReportEvaluation
  dsimp only
  split
  · next running _ => exact endsOrderly_next (evaluateReport_keepsConduct (device_of_profile? running) _ _)
  · exact endsOrderly_next (.refl _)

/-! ### The resets and the loads (R160) -/

/-- The device moves between states outside RUNNING, where every record is clean. -/
theorem conductOk_of_stopped {s u : State} (stopped : s.profile? = none) (still : u.profile? = none)
    (conduct : u.conduct = s.conduct) (ok : ConductOk s) : ConductOk u :=
  (conductOk_stopped still).mpr fun t => (record_of_conduct conduct t).trans (ok.clean stopped t)

/-- Clean records fit whatever profile is loaded. -/
theorem conductOk_loaded {s u : State} {p : Profile} (stopped : s.profile? = none) (running : u.device = .running p)
    (conduct : u.conduct = s.conduct) (ok : ConductOk s) : ConductOk u :=
  (conductOk_running running).mpr fun t => by
    rw [record_of_conduct conduct, ok.clean stopped]
    exact resetConduct_fits p

theorem afterReset_conductOk (s : State) : ConductOk (afterReset s) := (conductOk_stopped rfl).mpr reset_record

theorem beginReload_conductOk (s : State) : ConductOk (beginReload s) := (conductOk_stopped rfl).mpr (beginReload_record s)

theorem rstRelease_endsOrderly (s : State) : EndsOrderly s (execRstRelease s) := by
  refine .of_settleDue ?_
  unfold execRstRelease
  generalize settleDue s = u
  dsimp only
  split
  · next h =>
    have stopped : u.profile? = none := by simp [State.profile?, (rstAsserted_iff u).mp h]
    exact ⟨_, rfl, conductOk_of_stopped stopped rfl rfl⟩
  · exact endsOrderly_next (.refl u)

theorem reload_endsOrderly (s : State) : EndsOrderly s (execReload s) := by
  refine .of_settleDue ?_
  unfold execReload
  generalize settleDue s = u
  dsimp only
  split
  · exact endsOrderly_next (.refl u)
  · exact ⟨_, rfl, fun _ => beginReload_conductOk u⟩

theorem loadComplete_endsOrderly (memory : List Byte) (s : State) : EndsOrderly s (execLoadComplete memory s) := by
  refine .of_settleDue ?_
  unfold execLoadComplete
  generalize settleDue s = u
  dsimp only
  split
  · next kind hd =>
    have stopped : u.profile? = none := by simp [State.profile?, hd]
    split
    · exact ⟨_, rfl, fun ok => (handWaiting_keepsConduct _).conductOk (conductOk_loaded stopped rfl rfl ok)⟩
    · exact ⟨_, rfl, conductOk_of_stopped stopped rfl rfl⟩
  · exact endsOrderly_next (.refl u)

/-! ### Frame events -/

theorem framePulse_endsOrderly (holdoff : Bool) (o : FrameOrder) (s : State) : EndsOrderly s (execFramePulse holdoff o s) := by
  refine .of_settleDue ?_
  unfold execFramePulse
  dsimp only
  split
  · split
    · exact endsOrderly_next (frameEvent_keepsConduct _ holdoff o _)
    · exact endsOrderly_next (.refl _)
  · exact endsOrderly_next (.refl _)

theorem internalFrameCountdown_endsOrderly (holdoff : Bool) (o : FrameOrder) (s : State) :
    EndsOrderly s (execInternalFrameCountdown holdoff o s) := by
  refine .of_settleDue ?_
  unfold execInternalFrameCountdown
  generalize settleDue s = u
  dsimp only
  split
  · next p _ =>
    have event := frameEvent_keepsConduct p holdoff o u
    generalize frameEvent p holdoff o u = v at event ⊢
    split
    · exact endsOrderly_next (event.trans (keepsConduct_of_same rfl rfl))
    · exact endsOrderly_next (.refl u)
  · exact endsOrderly_next (.refl u)

/-! ### Every command -/

theorem exec_endsOrderly (c : Instr) (s : State) : EndsOrderly s (exec c s) := by
  cases c with
  | deviceReset => exact ⟨_, rfl, fun _ => afterReset_conductOk s⟩
  | rstRelease => exact rstRelease_endsOrderly s
  | reload => exact reload_endsOrderly s
  | loadComplete memory => exact loadComplete_endsOrderly memory s
  | framePulse holdoff order => exact framePulse_endsOrderly holdoff order s
  | internalFrameCountdown holdoff order => exact internalFrameCountdown_endsOrderly holdoff order s
  | cadenceExpiry => exact endsOrderly_next (takeExpiry_keepsConduct .cadence s)
  | prepareTimeout => exact endsOrderly_next (takeExpiry_keepsConduct .prepareTimeout s)
  | settleEnd => exact endsOrderly_next (takeExpiry_keepsConduct .settleEnd s)
  | holdExpiry e => exact endsOrderly_next (takeExpiry_keepsConduct (.hold e) s)
  | lapse e => exact endsOrderly_next (takeExpiry_keepsConduct (.lapse e) s)
  | paceExpiry t => exact endsOrderly_next (takeExpiry_keepsConduct (.pace t) s)
  | ackWaitExpiry => exact endsOrderly_next (takeExpiry_keepsConduct .ackWait s)
  | recoveryCountdownExpiry t => exact endsOrderly_next (takeExpiry_keepsConduct (.recovery t) s)
  | malformedFrame t bytes => exact malformedFrame_endsOrderly t bytes s
  | requestAccepted t r => exact requestAccepted_endsOrderly t r s
  | arbiterGrant => exact endsOrderly_kept grantEngine_keepsConduct s
  | place => exact endsOrderly_kept (completeFor_keepsConduct fun _ t f => evalPlace_keepsConduct _ t f _) s
  | release => exact endsOrderly_kept (completeFor_keepsConduct fun _ t h => evalRelease_keepsConduct _ t h _) s
  | withdraw => exact endsOrderly_kept (completeFor_keepsConduct fun _ t h => evalWithdraw_keepsConduct _ t h _) s
  | querySpan => exact endsOrderly_kept (completeFor_keepsConduct fun _ t h => evalQuerySpan_keepsConduct _ t h _) s
  | queryMap => exact endsOrderly_kept (completeFor_keepsConduct fun _ t x => evalQueryMap_keepsConduct _ t x _) s
  | ready => exact endsOrderly_kept (completeFor_keepsConduct evalReady_keepsConduct) s
  | refuse => exact endsOrderly_kept (completeFor_keepsConduct evalRefuse_keepsConduct) s
  | sweepStep => exact endsOrderly_kept sweepStep_keepsConduct s
  | status t => exact endsOrderly_kept (takeNow_keepsConduct (fun _ => setPort_keepsConduct _ _ _) t .status) s
  | mode t target => exact endsOrderly_kept (takeNow_keepsConduct (actMode_keepsConduct t target) t .mode) s
  | trigger t => exact endsOrderly_kept (takeNow_keepsConduct (actTrigger_keepsConduct t) t .trigger) s
  | readLog t start limit =>
    exact endsOrderly_kept (takeNow_keepsConduct (fun s => by rw [actReadLog_state]) t .readLog) s
  | recover t => exact endsOrderly_kept (takeNow_keepsConduct (actRecover_keepsConduct t) t .recover) s
  | readNotice t => exact endsOrderly_kept (takeNow_keepsConduct (actReadNotice_keepsConduct t) t .readNotice) s
  | setNoticeMask t mask =>
    exact endsOrderly_kept (takeNow_keepsConduct (fun _ => setPort_keepsConduct _ _ _) t .setNoticeMask) s
  | fetch t count => exact fetch_endsOrderly t count s
  | portReset t => exact portReset_endsOrderly t s
  | portResetRelease t => exact portResetRelease_endsOrderly t s
  | imageSendEnd => exact endsOrderly_kept endImageSend_keepsConduct s
  | transmitFrameDone => exact endsOrderly_kept endFrameSend_keepsConduct s
  | ack epoch send => exact endsOrderly_kept (takeAck_keepsConduct epoch send) s
  | nak epoch send => exact endsOrderly_kept (takeNak_keepsConduct epoch send) s
  | plrxFrameDiscard bytes => exact endsOrderly_next (settleDue_keepsConduct s)
  | measurementReport bytes strayBits => exact endsOrderly_kept (arriveReport_keepsConduct bytes strayBits) s
  | reportEvaluationBegin => exact reportEvaluationBegin_endsOrderly s
  | reportEvaluation => exact reportEvaluation_endsOrderly s
  | chipSelectAsserted t => exact chipSelect_endsOrderly t s
  | reportTransferBegin =>
    exact endsOrderly_kept (f := fun s => { s with transfer := some s.mready }) (fun _ => keepsConduct_of_same rfl rfl) s

/-- Settles O54: a record changes by a charge, a credit, a restart, a count or a recovery alone, and each leaves one
that fits. -/
theorem stepKeepsConduct : Obligations.StepKeepsConduct := by
  intro s t ok hstep
  unfold step at hstep
  split at hstep
  · cases hstep
    exact ok
  · next c rest _ =>
    obtain ⟨u, heq, hu⟩ := exec_endsOrderly c { s with pending := rest }
    cases heq.symm.trans hstep
    have popped : KeepsConduct s { s with pending := rest } := keepsConduct_of_same rfl rfl
    exact hu (popped.conductOk ok)

end Sys2Proof.Proofs
end

section
/-! PROOFS. STATUS and RECOVER (R154, R157, R158, R165, R171). -/

namespace Sys2Proof.Proofs

open Machine Safety Laws

/-! ### STATUS (R171) -/

theorem status_allowed (m : PortMode) : m.allows .status = true := by cases m <;> rfl

/-- STATUS passes the checks of R165 in every device state, to an isolated tenant and in every mode (R154, R165). -/
theorem requestCheck_status (s : State) (t : Tenant) : requestCheck t .status s = none := by
  cases trust : (s.record t).isolated with
  | true => simp [requestCheck, trust, answeredIsolated]
  | false => simp [requestCheck, trust, status_allowed]

/-- Settles O8. -/
theorem statusAnswers : Obligations.StatusAnswers := by
  intro s t accepting p c
  rw [exec, execStatus, settleDue_settled s accepting.settled, takeNow_accepted accepting (requestCheck_status s t)]
  simp [actStatus, respond, accept, answered, FrameKind.length, p, c, State.deviceState, State.loadFault?]

/-! ### Recovery (R158) -/

/-- A notice and an answer touch different parts of a port. -/
theorem noted_answered (frame : BitVec 32) (body : NoticeBody) (p : Port) (response : Option Response) :
    { p.noted frame body with request := none, response := response }
      = Port.noted frame body { p with request := none, response := response } := by
  unfold Port.noted
  dsimp only
  split
  · rfl
  split
  · rfl
  split <;> rfl

theorem setPort_setRecord (s : State) (t u : Tenant) (q : Port) (c : ConductRecord) :
    (s.setPort t q).setRecord u c = (s.setRecord u c).setPort t q := rfl

/-- Recovery on the state that an acceptance leaves, answered. -/
theorem recovery_answered (p : Profile) (t : Tenant) (s : State) :
    respond t .recover (refusal .ok) (takeRecovery p t .request (accept t 1 s))
      = issue t (.recovered p.recoveryMode .request .config)
          ((s.setRecord t resetConduct).setPort t { answered .recover .ok .empty 1 (s.port t) with mode := .config }) := by
  rw [takeRecovery_eq, respond, setPort_port, noted_answered]
  simp [issue, accept, answered, refusal, setPort_setRecord]

/-! ### RECOVER (R157) -/

section
variable {s : State} {p : Profile} {t : Tenant} (running : s.device = .running p)
include running

theorem requestCheck_recover (isolated : (s.record t).isolated = true) : requestCheck t .recover s = none := by
  simp [requestCheck, deviceState_running running, isolated, answeredIsolated]

theorem requestCheck_recover_trusted (trusted : (s.record t).isolated = false) :
    requestCheck t .recover s = none ∨ requestCheck t .recover s = some .notAllowed := by
  by_cases allowed : (s.port t).mode.allows .recover = true
  · exact .inl (by simp [requestCheck, deviceState_running running, trusted, allowed])
  · exact .inr (by simp [requestCheck, deviceState_running running, trusted, allowed])

theorem actRecover_trusted (trusted : (s.record t).isolated = false) : actRecover t s = (s, refusal .notAllowed) := by
  simp [actRecover, profile?_of_running running, trusted]

variable (isolated : (s.record t).isolated = true)
include isolated

theorem actRecover_auto (mode : p.recoveryMode = .auto) : actRecover t s = (s, refusal .tooEarly) := by
  simp [actRecover, profile?_of_running running, isolated, mode]

theorem actRecover_latched (mode : p.recoveryMode = .latched) : actRecover t s = (s, refusal .latched) := by
  simp [actRecover, profile?_of_running running, isolated, mode]

theorem actRecover_early (mode : p.recoveryMode = .onRequest) (early : (s.record t).recovery ≠ some 0) :
    actRecover t s = (s, refusal .tooEarly) := by
  simp [actRecover, profile?_of_running running, isolated, mode, early]

theorem actRecover_recovers (mode : p.recoveryMode = .onRequest) (out : (s.record t).recovery = some 0) :
    actRecover t s = (takeRecovery p t .request s, refusal .ok) := by
  simp [actRecover, profile?_of_running running, isolated, mode, out]

end

/-- A RECOVER that passes the checks is taken on the state its acceptance leaves. -/
theorem exec_recover {s : State} {t : Tenant} (h : Accepting s t) (passes : requestCheck t .recover s = none) :
    exec (.recover t) s = .next (let taken := actRecover t (accept t 1 s)
      respond t .recover taken.2 taken.1) := by
  rw [exec, execRecover, settleDue_settled s h.settled, takeNow_accepted h passes]
  rfl

/-- A refusal of RECOVER leaves its answer in the port and no more. -/
theorem exec_recover_refused {s : State} {t : Tenant} {code : ResponseCode} (h : Accepting s t)
    (passes : requestCheck t .recover s = none) (acts : actRecover t (accept t 1 s) = (accept t 1 s, refusal code)) :
    exec (.recover t) s = .next (s.setPort t (answered .recover code .empty 1 (s.port t))) := by
  rw [exec_recover h passes, acts]
  simp [respond, accept, answered, refusal]

/-- Settles O12, by the lines of R157 on the state that the acceptance leaves. -/
theorem recoverAnswers : Obligations.RecoverAnswers := by
  intro s p t accepting running port refuses
  have running' : (accept t 1 s).device = .running p := running
  refine ⟨fun trusted => ?_, fun isolated => ?_⟩
  · rcases requestCheck_recover_trusted running trusted with passes | refused
    · exact exec_recover_refused accepting passes (actRecover_trusted running' trusted)
    · exact refused_at_acceptance accepting .recover refused _
  have passes := requestCheck_recover running isolated
  refine ⟨fun mode => exec_recover_refused accepting passes (actRecover_auto running' isolated mode),
    fun mode => exec_recover_refused accepting passes (actRecover_latched running' isolated mode),
    fun mode early => exec_recover_refused accepting passes (actRecover_early running' isolated mode early),
    fun mode out => ?_⟩
  rw [exec_recover accepting passes, actRecover_recovers running' isolated mode out]
  dsimp only
  rw [recovery_answered, mode]
  rfl

end Sys2Proof.Proofs
end

section
/-! PROOFS. Notices: how one is disposed of, READ_NOTICE and SET_NOTICE_MASK (R161 to R165, R175). -/

namespace Sys2Proof.Proofs

open Machine Safety Laws

/-! ### The disposal of a notice (R162) -/

theorem isConduct_iff (body : NoticeBody) : body.isConduct = true ↔ body.kindCode = 10 ∨ body.kindCode = 11 := by
  cases body <;> simp [NoticeBody.isConduct, NoticeBody.kindCode]

section
variable {p : Port} {body : NoticeBody} (frame : BitVec 32)

theorem noted_held (held : p.prst = true) : p.noted frame body = p := if_pos held

variable (awake : p.prst = false)
include awake

theorem noted_offline (offline : p.mode = .offline) (other : body.isConduct = false) : p.noted frame body = p := by
  rw [Port.noted, if_neg (Bool.eq_false_iff.mp awake), if_pos ⟨offline, other⟩]

variable (reaches : p.mode ≠ .offline ∨ body.isConduct = true)
include reaches

/-- A notice that reaches an awake port is missed or queued. -/
theorem noted_reaches : p.noted frame body
    = if p.mask.getLsbD body.bit = false ∨ Config.queueMax ≤ p.queue.length then
        { p with missed := p.missed ||| (1#11 <<< body.bit) }
      else { p with queue := p.queue ++ [⟨frame, body⟩] } := by
  have passes : ¬ (p.mode = .offline ∧ body.isConduct = false) := fun ⟨offline, other⟩ =>
    reaches.elim (fun online => online offline) (Bool.eq_false_iff.mp other)
  rw [Port.noted, if_neg (Bool.eq_false_iff.mp awake), if_neg passes]

end

/-- Settles O7: the lines of R162's table, in order. -/
theorem noticeIsDisposedOf : Obligations.NoticeIsDisposedOf := by
  intro s t body p kind conductKind
  have conduct : body.isConduct = true ↔ conductKind := isConduct_iff body
  refine ⟨fun held => ?_, fun awake offline other => ?_, fun awake reaches misses => ?_,
    fun awake reaches enabled space => ?_⟩ <;> rw [issue]
  · rw [noted_held _ held, setPort_self]
  · rw [noted_offline _ awake offline (Bool.eq_false_iff.mpr (mt conduct.mp other)), setPort_self]
  · rw [noted_reaches _ awake (reaches.imp_right conduct.mpr)]
    exact congrArg (s.setPort t) (if_pos misses)
  · rw [noted_reaches _ awake (reaches.imp_right conduct.mpr)]
    have queued : ¬ (p.mask.getLsbD (kind - 1) = false ∨ 16 ≤ p.queue.length) :=
      not_or.mpr ⟨Bool.ne_false_iff.mpr enabled, Nat.not_le.mpr space⟩
    exact congrArg (s.setPort t) (if_neg queued)

/-! ### READ_NOTICE and SET_NOTICE_MASK (R163, R164) -/

theorem allows_readNotice (m : PortMode) : m.allows .readNotice = m.allows .readLog := by cases m <;> rfl

/-- The checks of R165 take READ_NOTICE as they take READ_LOG. -/
theorem requestCheck_readNotice (t : Tenant) (s : State) : requestCheck t .readNotice s = requestCheck t .readLog s := by
  simp [requestCheck, allows_readNotice, answeredIsolated]

theorem exec_readNotice {s : State} {p : Profile} {t : Tenant} (h : Accepting s t) (running : s.device = .running p)
    (may : (s.record t).isolated = true ∨ (s.port t).mode ≠ .offline) :
    exec (.readNotice t) s = .next (let taken := actReadNotice t (accept t 1 s)
      respond t .readNotice taken.2 taken.1) := by
  have passes := (requestCheck_readNotice t s).trans (requestCheck_readLog running may)
  rw [exec, execReadNotice, settleDue_settled s h.settled, takeNow_accepted h passes]
  rfl

section
variable {s : State} {t : Tenant}

theorem actReadNotice_empty (empty : (s.port t).queue = []) : actReadNotice t s = (s, refusal .empty) := by
  rw [actReadNotice, empty]

theorem actReadNotice_oldest {n : Notice} {rest : List Notice} (oldest : (s.port t).queue = n :: rest) :
    actReadNotice t s = (s.setPort t { s.port t with queue := rest }, .ok, .notice rest.length n) := by
  rw [actReadNotice, oldest]

end

theorem accept_queue (t : Tenant) (n : Nat) (s : State) : ((accept t n s).port t).queue = (s.port t).queue := by
  rw [accept, setPort_port]

theorem exec_setNoticeMask {s : State} {p : Profile} {t : Tenant} (mask : BitVec 16) (h : Taking s p t .setNoticeMask) :
    exec (.setNoticeMask t mask) s = .next (let taken := actSetNoticeMask t mask (accept t 3 s)
      respond t .setNoticeMask taken.2 taken.1) := by
  rw [exec, execSetNoticeMask, settleDue_settled s h.settled, takeNow_taking h]
  rfl

/-- Settles O13, by the two lines of R163 and the mask of R164 cut to its 11 bits. -/
theorem noticesAreRead : Obligations.NoticesAreRead := by
  refine ⟨fun s p t accepting running may => ⟨fun empty => ?_, fun n rest oldest => ?_⟩, fun s p t mask taking => ?_⟩
  · rw [exec_readNotice accepting running may, actReadNotice_empty ((accept_queue t 1 s).trans empty)]
    simp [respond, accept, answered, refusal]
  · rw [exec_readNotice accepting running may, actReadNotice_oldest ((accept_queue t 1 s).trans oldest)]
    simp [respond, accept, answered]
  · refine ⟨mask.setWidth 11, fun k low => ?_, ?_⟩
    · rw [BitVec.getLsbD_setWidth, decide_eq_true low, Bool.true_and]
    · rw [exec_setNoticeMask mask taking]
      simp [actSetNoticeMask, respond, accept, answered, refusal]

end Sys2Proof.Proofs
end

section
/-! PROOFS. MODE (R165 to R167). -/

namespace Sys2Proof.Proofs

open Machine Safety Laws

/-! ### The request as it is taken -/

theorem allows_mode (m : PortMode) : m.allows .mode = true := by cases m <;> rfl

/-- MODE passes the checks of R165 in every mode, for a tenant that is not isolated. -/
theorem requestCheck_mode {s : State} {p : Profile} {t : Tenant} (running : s.device = .running p)
    (trusted : (s.record t).isolated = false) : requestCheck t .mode s = none := by
  simp [requestCheck, deviceState_running running, trusted, allows_mode]

theorem accept_mode (t : Tenant) (n : Nat) (s : State) : ((accept t n s).port t).mode = (s.port t).mode := by
  rw [accept, setPort_port]

/-- The state as a MODE is answered with a code and leaves the port in a mode. -/
def modeEnds (s : State) (t : Tenant) (code : ResponseCode) (m : PortMode) : State :=
  s.setPort t { answered .mode code .empty 2 (s.port t) with mode := m }

theorem respond_setMode (s : State) (t : Tenant) (m : PortMode) (code : ResponseCode) :
    respond t .mode (refusal code) (setMode t m (accept t 2 s)) = modeEnds s t code m := by
  simp [respond, accept, answered, refusal, modeEnds, setMode]

/-- The answer to a MODE and the sweep it requests touch different parts of the state. -/
theorem respond_requestSweep (t : Tenant) (k : FrameKind) (a : Answer) (s : State) :
    respond t k a (requestSweep s) = requestSweep (respond t k a s) := rfl

section
variable {s : State} {p : Profile} {t : Tenant} (h : Accepting s t) (running : s.device = .running p)
  (trusted : (s.record t).isolated = false) (target : Byte)
include h running trusted

theorem exec_mode : exec (.mode t target) s = .next (let taken := actMode t target (accept t 2 s)
    respond t .mode taken.2 taken.1) := by
  rw [exec, execMode, settleDue_settled s h.settled, takeNow_accepted h (requestCheck_mode running trusted)]
  rfl

variable {target}

/-- A MODE that moves nothing leaves its answer in the port. -/
theorem exec_mode_stands {code : ResponseCode}
    (acts : actMode t target (accept t 2 s) = (accept t 2 s, refusal code)) :
    exec (.mode t target) s = .next (modeEnds s t code (s.port t).mode) := by
  rw [exec_mode h running trusted, acts]
  simp [respond, accept, answered, refusal, modeEnds]

/-- A MODE that sets the mode alone leaves the mode and its answer in the port. -/
theorem exec_mode_sets {m : PortMode} {code : ResponseCode}
    (acts : actMode t target (accept t 2 s) = (setMode t m (accept t 2 s), refusal code)) :
    exec (.mode t target) s = .next (modeEnds s t code m) := by
  rw [exec_mode h running trusted, acts]
  exact congrArg Host.Outcome.next (respond_setMode s t m code)

end

/-! ### The table of R166 -/

theorem modeOf_above {b : Byte} (above : 3 < b.toNat) : modeOf b = none := by
  have other (k : Byte) (small : k.toNat ≤ 3) : b ≠ k := fun same => Nat.not_lt.mpr small (same ▸ above)
  rw [modeOf, if_neg (other 0 (by decide)), if_neg (other 1 (by decide)), if_neg (other 2 (by decide)),
    if_neg (other 3 (by decide))]

section
variable {s : State} {t : Tenant}

theorem actMode_badField {b : Byte} (above : 3 < b.toNat) : actMode t b s = (s, refusal .badField) := by
  rw [actMode, modeOf_above above]

theorem actMode_offline (present : (s.port t).mode = .offline) :
    actMode t 0 s = (s, refusal .ok)
    ∧ actMode t 1 s = (if s.recordEnabled t then (setMode t .config s, refusal .ok) else (s, refusal .disabled))
    ∧ actMode t 2 s = (s, refusal .notAllowed)
    ∧ actMode t 3 s = (s, refusal .notAllowed) := by
  simp [actMode, modeOf, present]

theorem actMode_config (present : (s.port t).mode = .config) :
    actMode t 0 s = (setMode t .offline s, refusal .ok)
    ∧ actMode t 1 s = (s, refusal .ok)
    ∧ actMode t 2 s = (setMode t .active s, refusal .ok)
    ∧ actMode t 3 s = (s, refusal .notAllowed) := by
  simp [actMode, modeOf, present]

theorem actMode_active (present : (s.port t).mode = .active) :
    actMode t 2 s = (s, refusal .ok) ∧ actMode t 3 s = (setMode t .paused s, refusal .ok) := by
  simp [actMode, modeOf, present]

theorem actMode_paused (present : (s.port t).mode = .paused) :
    actMode t 2 s = (requestSweep (setMode t .active s), refusal .ok) ∧ actMode t 3 s = (s, refusal .ok) := by
  simp [actMode, modeOf, present]

/-- Out of ACTIVE or PAUSED to OFFLINE or CONFIG the tenant is withdrawn (R167). -/
theorem actMode_withdraws (present : (s.port t).mode = .active ∨ (s.port t).mode = .paused) {b : Byte} {m : PortMode}
    (target : b = 0 ∧ m = .offline ∨ b = 1 ∧ m = .config) :
    actMode t b s = (purge t (setMode t m s), refusal .ok) := by
  obtain ⟨rfl, rfl⟩ | ⟨rfl, rfl⟩ := target <;>
    obtain present | present := present <;>
    simp [actMode, modeOf, present, withdrawal]

theorem recordEnabled_running {p : Profile} (running : s.device = .running p) : s.recordEnabled t = (p.tenant t).enabled := by
  simp [State.recordEnabled, profile?_of_running running]

end

/-- Settles O9, line by line of R166's table on the state that the acceptance leaves, and R167 for the withdrawal. -/
theorem modeChanges : Obligations.ModeChanges := by
  intro s p t accepting running trusted port ends
  have stands {b : Byte} {m : PortMode} {code : ResponseCode} (present : port.mode = m)
      (acts : actMode t b (accept t 2 s) = (accept t 2 s, refusal code)) : exec (.mode t b) s = .next (ends code m) :=
    present ▸ exec_mode_stands accepting running trusted acts
  have sets {b : Byte} {m : PortMode} {code : ResponseCode}
      (acts : actMode t b (accept t 2 s) = (setMode t m (accept t 2 s), refusal code)) :
      exec (.mode t b) s = .next (ends code m) := exec_mode_sets accepting running trusted acts
  have accepted {m : PortMode} (present : port.mode = m) : ((accept t 2 s).port t).mode = m :=
    (accept_mode t 2 s).trans present
  refine ⟨fun b above => stands rfl (actMode_badField above), fun present => ?_, fun present => ?_, fun present => ?_,
    fun present => ?_, fun present b m target => ?_⟩
  · obtain ⟨toOffline, toConfig, toActive, toPaused⟩ := actMode_offline (accepted present)
    have enables : (accept t 2 s).recordEnabled t = (p.tenant t).enabled := recordEnabled_running running
    rw [enables] at toConfig
    exact ⟨stands present toOffline, fun enabled => sets (toConfig.trans (if_pos enabled)),
      fun disabled => stands present (toConfig.trans (if_neg (Bool.eq_false_iff.mp disabled))),
      stands present toActive, stands present toPaused⟩
  · obtain ⟨toOffline, toConfig, toActive, toPaused⟩ := actMode_config (accepted present)
    exact ⟨sets toOffline, stands present toConfig, sets toActive, stands present toPaused⟩
  · obtain ⟨toActive, toPaused⟩ := actMode_active (accepted present)
    exact ⟨stands present toActive, sets toPaused⟩
  · obtain ⟨toActive, toPaused⟩ := actMode_paused (accepted present)
    refine ⟨?_, stands present toPaused⟩
    rw [exec_mode accepting running trusted, toActive]
    dsimp only
    rw [respond_requestSweep, respond_setMode]
    rfl
  · rw [exec_mode accepting running trusted, actMode_withdraws (present.imp accepted accepted) target]
    rfl

end Sys2Proof.Proofs
end

section
/-! PROOFS. The frames of a tenant port: chip select, FETCH, and what arrives (R168 to R170, R175, R176). -/

namespace Sys2Proof.Proofs

open Machine Safety Laws

/-! ### The bytes of a FETCH (R176) -/

theorem zeroPadTake_length (n : Nat) (bytes : List Byte) : (zeroPadTake n bytes).length = n := by
  rw [zeroPadTake, List.length_append, List.length_take, List.length_replicate]
  omega

/-- Each byte sent is the run's byte of its place, 0x00 past the run's end. -/
theorem zeroPadTake_getElem? {n i : Nat} (bytes : List Byte) (inFrame : i < n) :
    (zeroPadTake n bytes)[i]? = some (bytes.getD i 0) := by
  rw [zeroPadTake, List.getElem?_append, List.length_take, List.getD_eq_getElem?_getD]
  by_cases inRun : i < bytes.length
  · rw [if_pos (Nat.lt_min.mpr ⟨inFrame, inRun⟩), List.getElem?_take_of_lt inFrame, List.getElem?_eq_getElem inRun]
    rfl
  · have past : ¬ i < min n bytes.length := fun h => inRun (Nat.lt_min.mp h).2
    rw [if_neg past, List.getElem?_replicate_of_lt (by omega), List.getElem?_eq_none (Nat.not_lt.mp inRun)]
    rfl

theorem flagBits_pair (a b : Bool) :
    flagBits [a, b] = BitVec.ofNat 8 ((if a then 1 else 0) + (if b then 2 else 0)) := by
  cases a <;> cases b <;> rfl

/-- The status header and the carried response, byte by byte. -/
theorem fetchBytes_getElem? (f : FrameUnderWay) {n i : Nat} (inFrame : i < n) : (f.fetchBytes n)[i]? = some
    (if i = 0 then 0
     else if i = 1 then f.mode.code
     else if i = 2 then BitVec.ofNat 8 ((if f.busy then 1 else 0) + (if f.carried.isSome then 2 else 0))
     else if i = 3 then BitVec.ofNat 8 f.noticeCount
     else ((f.carried.map Response.bytes).getD []).getD (i - 4) 0) := by
  rw [FrameUnderWay.fetchBytes, zeroPadTake_getElem? _ inFrame, flagBits_pair]
  match i with
  | 0 | 1 | 2 | 3 | i + 4 => rfl

/-- A FETCH that carried the response whole empties the slot (R170). -/
theorem carriedWhole_empties (f : FrameUnderWay) (n : Nat) (slot : Option Response) :
    (if f.carriedWhole n then none else slot) = match f.carried with
      | none => slot
      | some r => if 8 + r.body.bytes.length ≤ n then none else slot := by
  cases carried : f.carried with
  | none => simp [FrameUnderWay.carriedWhole, carried]
  | some r => simp [FrameUnderWay.carriedWhole, carried]

/-! ### Chip select and FETCH (R170) -/

section
variable {s : State} {t : Tenant} (settled : Settled s) (awake : s.inert t = false)
include settled awake

theorem exec_chipSelectAsserted : exec (.chipSelectAsserted t) s
    = .next (s.setPort t { s.port t with underWay := some (headerNow (s.port t)) }) := by
  rw [exec, execChipSelectAsserted, settleDue_settled s settled]
  exact if_neg (Bool.eq_false_iff.mp awake)

theorem exec_fetch {n : Nat} (least : 1 ≤ n) : exec (.fetch t n) s = .next (fetchFrame t n s) := by
  have taken : ¬ (s.inert t = true ∨ n = 0) := not_or.mpr ⟨Bool.eq_false_iff.mp awake, Nat.ne_of_gt least⟩
  rw [exec, execFetch, settleDue_settled s settled]
  exact if_neg taken

end

theorem fetchFrame_begun {s : State} {t : Tenant} {f : FrameUnderWay} (begun : (s.port t).underWay = some f) (n : Nat) :
    fetchFrame t n s = s.setPort t { s.port t with
      underWay := none, sdo := f.fetchBytes n
      response := if f.carriedWhole n then none else (s.port t).response } := by
  rw [fetchFrame, begun, Option.getD_some]

/-- Settles O14: the header is taken at chip select, and the bytes of a FETCH are read off one by one. -/
theorem fetchSends : Obligations.FetchSends := by
  refine ⟨fun s t settled awake => exec_chipSelectAsserted settled awake, fun s t f n settled awake least begun => ?_⟩
  refine ⟨f.fetchBytes n, zeroPadTake_length _ _, fun i inFrame => fetchBytes_getElem? f inFrame, ?_⟩
  rw [exec_fetch settled awake least, fetchFrame_begun begun]
  exact congrArg (fun slot => Host.Outcome.next
    (s.setPort t { s.port t with underWay := none, sdo := f.fetchBytes n, response := slot })) (carriedWhole_empties f n _)

/-! ### What arrives (R168, R169, R175) -/

section
variable {s : State} {t : Tenant}

/-- Every byte sent in a malformed frame is 0x00 when its kind byte names a request; otherwise the bytes are free values. -/
theorem exec_malformedFrame (settled : Settled s) (awake : s.inert t = false) {bytes : List Byte}
    (fails : passingKind bytes = none) : ∃ (out : List Byte) (used : Nat), out.length = bytes.length
      ∧ ((bytes.head?.bind kindOfByte).isSome = true → used = 0 ∧ ∀ b ∈ out, b = 0)
      ∧ exec (.malformedFrame t bytes) s = .next
          { s.setPort t { s.port t with malformed := true, underWay := none, sdo := out } with
            freeCount := s.freeCount + used } := by
  have taken : ¬ (s.inert t = true ∨ (passingKind bytes).isSome = true) := by simp [awake, fails]
  rw [exec, execMalformedFrame, settleDue_settled s settled]
  dsimp only
  rw [if_neg taken]
  by_cases known : (bytes.head?.bind kindOfByte).isSome = true
  · refine ⟨List.replicate bytes.length 0, 0, List.length_replicate, fun _ => ⟨rfl, fun b => List.eq_of_mem_replicate⟩, ?_⟩
    rw [if_pos known, if_pos known]
    rfl
  · refine ⟨(List.range bytes.length).map fun j => Config.unknownFrameOut (s.freeCount + j), bytes.length, by simp,
      fun named => absurd named known, ?_⟩
    rw [if_neg known, if_neg known]

/-- Into an empty slot a request for the Plan Engine is accepted. -/
theorem exec_requestAccepted {p : Profile} (h : Accepting s t) (running : s.device = .running p) (r : EngineRequest) :
    exec (.requestAccepted t r) s = .next (s.setPort t
      { s.port t with request := some r, response := none, underWay := none,
                      sdo := List.replicate ((requestKind r).length.getD 0) 0 }) := by
  simp [exec, execRequestAccepted, settleDue_settled s h.settled, h.awake, endRequestFrame, h.empty, deviceState_running running]

/-- A request frame of `n` bytes has found the slot occupied: it is discarded and the collided flag set (R169). -/
def discardCollided (t : Tenant) (n : Nat) (s : State) : State :=
  s.setPort t { s.port t with collided := true, underWay := none, sdo := List.replicate n 0 }

variable (settled : Settled s) (awake : s.inert t = false) {r' : EngineRequest} (occupied : (s.port t).request = some r')
include awake occupied

theorem takeNow_collides (k : FrameKind) (act : State → State × Answer) :
    takeNow t k act s = discardCollided t (k.length.getD 0) s := by
  simp [takeNow, awake, endRequestFrame, occupied, discardCollided]

include settled

theorem requestAccepted_collides (r : EngineRequest) :
    exec (.requestAccepted t r) s = .next (discardCollided t ((requestKind r).length.getD 0) s) := by
  simp [exec, execRequestAccepted, settleDue_settled s settled, awake, endRequestFrame, occupied, discardCollided]

/-- As `takeNow_collides`, of a command whose row takes its request at its acceptance. -/
theorem collides_at_acceptance (k : FrameKind) (act : State → State × Answer) :
    (.next (takeNow t k act (settleDue s)) : Host.Outcome State Fault Refusal)
      = .next (discardCollided t (k.length.getD 0) s) := by
  rw [settleDue_settled s settled, takeNow_collides awake occupied]

end

theorem requestKind_length (r : EngineRequest) : (requestKind r).length = some ((requestKind r).length.getD 0) := by
  cases r <;> rfl

/-- Settles O15. Into a full slot each row of a request collides alike, whatever it would have done. -/
theorem framesArrive : Obligations.FramesArrive := by
  refine ⟨fun s t bytes settled awake fails => exec_malformedFrame settled awake fails,
    fun s p t r accepting running => ⟨_, exec_requestAccepted accepting running r⟩,
    fun s t r' settled awake occupied => ?_⟩
  have atAcceptance := collides_at_acceptance settled awake occupied
  exact ⟨fun r => ⟨_, requestKind_length r, requestAccepted_collides settled awake occupied r⟩,
    atAcceptance .status _, fun _ => atAcceptance .mode _, atAcceptance .trigger _, fun _ _ => atAcceptance .readLog _,
    atAcceptance .recover _, atAcceptance .readNotice _, fun _ => atAcceptance .setNoticeMask _⟩

end Sys2Proof.Proofs
end

section
/-! PROOFS. The bytes of every port frame are read back as the command they spell (R168, R175). -/

namespace Sys2Proof.Proofs

open Machine Safety Laws Decode

/-! ### The test of kind and length -/

theorem kindOfByte_code (k : FrameKind) : kindOfByte k.code = some k := by cases k <;> rfl

/-- A frame of a request's kind byte and length passes. -/
theorem passingKind_request {k : FrameKind} {fields : List Byte} (length : k.length = some (fields.length + 1)) :
    passingKind (k.code :: fields) = some k := by
  simp [passingKind, kindOfByte_code, length]

/-- A FETCH passes at any length. -/
theorem passingKind_fetch (ignored : List Byte) : passingKind (FrameKind.fetch.code :: ignored) = some .fetch := rfl

/-! ### The fields -/

theorem flagByte_bit (b : Bool) : (flagByte b)[0] = b := by cases b <;> rfl

theorem placeFields_placeBytes (f : PlaceFields) : placeFields (placeBytes f) = f := by
  simp [placeFields, placeBytes, be16, join16_be16, flagByte_bit]

theorem portFrame_requestBytes (t : Tenant) (r : EngineRequest) :
    portFrame t (requestBytes r) = .requestAccepted t r := by
  have passes : passingKind (requestBytes r) = some (requestKind r) := by
    cases r <;> exact passingKind_request rfl
  cases r with
  | place f =>
    rw [portFrame, passes]
    exact congrArg (fun f => Instr.requestAccepted t (.place f)) (placeFields_placeBytes f)
  | release h | withdraw h | querySpan h => rfl
  | queryMap lo count =>
    rw [portFrame, passes]
    exact congrArg (fun lo => Instr.requestAccepted t (.queryMap lo count)) (join16_be16 lo)
  | ready batch =>
    rw [portFrame, passes]
    exact congrArg (fun batch => Instr.requestAccepted t (.ready batch)) (join16_be16 batch)
  | refuse batch =>
    rw [portFrame, passes]
    exact congrArg (fun batch => Instr.requestAccepted t (.refuse batch)) (join16_be16 batch)

theorem portFrame_malformed {bytes : List Byte} (fails : passingKind bytes = none) (t : Tenant) :
    portFrame t bytes = .malformedFrame t bytes := by
  rw [portFrame, fails]

theorem portFrame_readLog (t : Tenant) (start : BitVec 16) (limit : Byte) :
    portFrame t (FrameKind.readLog.code :: be16 start ++ [limit]) = .readLog t start limit :=
  congrArg (fun start => Instr.readLog t start limit) (join16_be16 start)

theorem portFrame_setNoticeMask (t : Tenant) (mask : BitVec 16) :
    portFrame t (FrameKind.setNoticeMask.code :: be16 mask) = .setNoticeMask t mask :=
  congrArg (Instr.setNoticeMask t) (join16_be16 mask)

theorem portFrame_fetch (t : Tenant) {count : Nat} (least : 1 ≤ count) :
    portFrame t (FrameKind.fetch.code :: List.replicate (count - 1) 0) = .fetch t count := by
  rw [portFrame, passingKind_fetch]
  simp only [List.length_cons, List.length_replicate, Nat.sub_add_cancel least]

/-- Settles O60, by the commands that arrive as port frames. -/
theorem portFramesRoundTrip : Obligations.PortFramesRoundTrip := by
  intro c t bytes wellFormed spells
  cases c <;> cases spells
  case malformedFrame => exact portFrame_malformed (Option.isNone_iff_eq_none.mp wellFormed) t
  case requestAccepted r => exact portFrame_requestBytes t r
  case status | mode | trigger | recover | readNotice => rfl
  case readLog start limit => exact portFrame_readLog t start limit
  case setNoticeMask mask => exact portFrame_setNoticeMask t mask
  case fetch count => exact portFrame_fetch t (of_decide_eq_true wellFormed)

end Sys2Proof.Proofs
end

section
/-! PROOFS. What a step makes of each queue of commands (log entry 1). -/

namespace Sys2Proof.Proofs

open Machine

theorem step_of_pending_cons {s : State} {c : Instr} {rest : List Instr} (queue : s.pending = c :: rest) :
    step s = exec c { s with pending := rest } := by
  rw [step, queue]

theorem step_of_pending_nil {s : State} (idle : s.pending = []) : step s = .next s := by
  rw [step, idle]

/-- Settles O1, by the two shapes of the queue. -/
theorem stepRunsFrontCommand : Obligations.StepRunsFrontCommand :=
  ⟨fun _ _ _ queue => step_of_pending_cons queue, fun _ idle => step_of_pending_nil idle⟩

end Sys2Proof.Proofs
end
